-- ==== Sys2Proof/Word.lean ====
section
/-! DEFINITION. The word types of the machine: bytes, halfwords, 32-bit words, doublewords and 5-bit register numbers
(00_scope.md R7, 10_state.md R43). -/

namespace Sys2Proof

/-- A byte of memory (R7). -/
abbrev Byte := BitVec 8

/-- A halfword (R7). -/
abbrev Half := BitVec 16

/-- A word: every register and every instruction has this width (R7, R43, R70). -/
abbrev Word := BitVec 32

/-- A doubleword: HI||LO and the even/odd register pairs (R24, R26). -/
abbrev DWord := BitVec 64

/-- A register number, the value of a 5-bit field of the instruction word (R71, R73). -/
abbrev Reg := BitVec 5

end Sys2Proof
end

