-- ==== Sys2Proof/Syntax.lean ====
section
/-! DEFINITION. The abstract syntax: one constructor for each of the 295 rows of spec/opcode_table.json
(00_scope.md R13, 30_encoding.md R72). An argument is an operand field of the row's layout (R72, R73); a field that the
row's rule does not examine and that no layout of its own names is left out (R75). -/

namespace Sys2Proof

/-- An instruction, as decode (R74) delivers it: the register numbers and immediates are the raw field values (R73). -/
inductive Instr where
  -- Integer arithmetic, logic, selection, counts, bytes and bit fields (40_arithmetic_logic.md)
  /-- `add rd, rs, rt` (R101) -/
  | add (rd rs rt : Reg)
  /-- `addu rd, rs, rt` (R102) -/
  | addu (rd rs rt : Reg)
  /-- `sub rd, rs, rt` (R103) -/
  | sub (rd rs rt : Reg)
  /-- `subu rd, rs, rt` (R104) -/
  | subu (rd rs rt : Reg)
  /-- `addiu rt, rs, imm` (R105) -/
  | addiu (rt rs : Reg) (imm : Half)
  /-- `and rd, rs, rt` (R106) -/
  | and (rd rs rt : Reg)
  /-- `or rd, rs, rt` (R107) -/
  | or (rd rs rt : Reg)
  /-- `xor rd, rs, rt` (R108) -/
  | xor (rd rs rt : Reg)
  /-- `nor rd, rs, rt` (R109) -/
  | nor (rd rs rt : Reg)
  /-- `andi rt, rs, imm` (R110) -/
  | andi (rt rs : Reg) (imm : Half)
  /-- `ori rt, rs, imm` (R111) -/
  | ori (rt rs : Reg) (imm : Half)
  /-- `xori rt, rs, imm` (R112) -/
  | xori (rt rs : Reg) (imm : Half)
  /-- `slt rd, rs, rt` (R113) -/
  | slt (rd rs rt : Reg)
  /-- `sltu rd, rs, rt` (R114) -/
  | sltu (rd rs rt : Reg)
  /-- `slti rt, rs, imm` (R115) -/
  | slti (rt rs : Reg) (imm : Half)
  /-- `sltiu rt, rs, imm` (R116) -/
  | sltiu (rt rs : Reg) (imm : Half)
  /-- `lui rt, imm` (R117) -/
  | lui (rt : Reg) (imm : Half)
  /-- `aui rt, rs, imm` (R118) -/
  | aui (rt rs : Reg) (imm : Half)
  /-- `seleqz rd, rs, rt` (R119) -/
  | seleqz (rd rs rt : Reg)
  /-- `selnez rd, rs, rt` (R120) -/
  | selnez (rd rs rt : Reg)
  /-- `clz rd, rs` (R121) -/
  | clz (rd rs : Reg)
  /-- `clo rd, rs` (R122) -/
  | clo (rd rs : Reg)
  /-- `seb rd, rt` (R123) -/
  | seb (rd rt : Reg)
  /-- `seh rd, rt` (R124) -/
  | seh (rd rt : Reg)
  /-- `wsbh rd, rt` (R125) -/
  | wsbh (rd rt : Reg)
  /-- `bitswap rd, rt` (R126) -/
  | bitswap (rd rt : Reg)
  /-- `align rd, rs, rt, bp` (R127) -/
  | align (rd rs rt : Reg) (bp : BitVec 2)
  /-- `ext rt, rs, pos, size` (R128) -/
  | ext (rt rs msb lsb : Reg)
  /-- `ins rt, rs, pos, size` (R129) -/
  | ins (rt rs msb lsb : Reg)
  /-- `lsa rd, rs, rt, sa` (R130) -/
  | lsa (rd rs rt : Reg) (sa2 : BitVec 2)
  /-- `addiupc rs, imm` (R131) -/
  | addiupc (rs : Reg) (imm19 : BitVec 19)
  /-- `auipc rs, imm` (R132) -/
  | auipc (rs : Reg) (imm : Half)
  /-- `aluipc rs, imm` (R133) -/
  | aluipc (rs : Reg) (imm : Half)
  -- Shifts and rotates (41_shift_rotate.md)
  /-- `sll rd, rt, sa` (R151) -/
  | sll (rd rt sa : Reg)
  /-- `srl rd, rt, sa` (R152) -/
  | srl (rd rt sa : Reg)
  /-- `sra rd, rt, sa` (R153) -/
  | sra (rd rt sa : Reg)
  /-- `sllv rd, rt, rs` (R154) -/
  | sllv (rd rt rs : Reg)
  /-- `srlv rd, rt, rs` (R155) -/
  | srlv (rd rt rs : Reg)
  /-- `srav rd, rt, rs` (R156) -/
  | srav (rd rt rs : Reg)
  /-- `rotr rd, rt, sa` (R157) -/
  | rotr (rd rt sa : Reg)
  /-- `rotrv rd, rt, rs` (R158) -/
  | rotrv (rd rt rs : Reg)
  -- Multiply, divide and the HI/LO accumulator (42_multiply_divide.md)
  /-- `mult rs, rt` (R167) -/
  | mult (rs rt : Reg)
  /-- `multu rs, rt` (R168) -/
  | multu (rs rt : Reg)
  /-- `div rs, rt` (R169) -/
  | div (rs rt : Reg)
  /-- `divu rs, rt` (R170) -/
  | divu (rs rt : Reg)
  /-- `mfhi rd` (R171) -/
  | mfhi (rd : Reg)
  /-- `mflo rd` (R172) -/
  | mflo (rd : Reg)
  /-- `mthi rs` (R173) -/
  | mthi (rs : Reg)
  /-- `mtlo rs` (R174) -/
  | mtlo (rs : Reg)
  /-- `madd rs, rt` (R175) -/
  | madd (rs rt : Reg)
  /-- `maddu rs, rt` (R176) -/
  | maddu (rs rt : Reg)
  /-- `msub rs, rt` (R177) -/
  | msub (rs rt : Reg)
  /-- `msubu rs, rt` (R178) -/
  | msubu (rs rt : Reg)
  /-- `mul rd, rs, rt` (R179) -/
  | mul (rd rs rt : Reg)
  /-- `muh rd, rs, rt` (R180) -/
  | muh (rd rs rt : Reg)
  /-- `mulu rd, rs, rt` (R181) -/
  | mulu (rd rs rt : Reg)
  /-- `muhu rd, rs, rt` (R182) -/
  | muhu (rd rs rt : Reg)
  /-- `div rd, rs, rt` (R183) -/
  | divR6 (rd rs rt : Reg)
  /-- `mod rd, rs, rt` (R184) -/
  | mod (rd rs rt : Reg)
  /-- `divu rd, rs, rt` (R185) -/
  | divuR6 (rd rs rt : Reg)
  /-- `modu rd, rs, rt` (R186) -/
  | modu (rd rs rt : Reg)
  -- Branches and jumps (43_branch_jump.md)
  /-- `j target` (R198) -/
  | j (index : BitVec 26)
  /-- `jal target` (R199) -/
  | jal (index : BitVec 26)
  /-- `jr rs` (R200) -/
  | jr (rs : Reg)
  /-- `jalr rd, rs` (R201) -/
  | jalr (rd rs : Reg)
  /-- `beq rs, rt, offset` (R202) -/
  | beq (rs rt : Reg) (imm : Half)
  /-- `bne rs, rt, offset` (R203) -/
  | bne (rs rt : Reg) (imm : Half)
  /-- `blez rs, offset` (R204) -/
  | blez (rs : Reg) (imm : Half)
  /-- `bgtz rs, offset` (R205) -/
  | bgtz (rs : Reg) (imm : Half)
  /-- `bltz rs, offset` (R206) -/
  | bltz (rs : Reg) (imm : Half)
  /-- `bgez rs, offset` (R207) -/
  | bgez (rs : Reg) (imm : Half)
  /-- `bltzal rs, offset` (R208) -/
  | bltzal (rs : Reg) (imm : Half)
  /-- `nal` (R209) -/
  | nal (imm : Half)
  /-- `bgezal rs, offset` (R210) -/
  | bgezal (rs : Reg) (imm : Half)
  /-- `bal offset` (R211) -/
  | bal (imm : Half)
  /-- `bc offset` (R212) -/
  | bc (off26 : BitVec 26)
  /-- `balc offset` (R213) -/
  | balc (off26 : BitVec 26)
  /-- `beqc rs, rt, offset` (R214) -/
  | beqc (rs rt : Reg) (imm : Half)
  /-- `bnec rs, rt, offset` (R215) -/
  | bnec (rs rt : Reg) (imm : Half)
  /-- `bltc rs, rt, offset` (R216) -/
  | bltc (rs rt : Reg) (imm : Half)
  /-- `bgec rs, rt, offset` (R217) -/
  | bgec (rs rt : Reg) (imm : Half)
  /-- `bltuc rs, rt, offset` (R218) -/
  | bltuc (rs rt : Reg) (imm : Half)
  /-- `bgeuc rs, rt, offset` (R219) -/
  | bgeuc (rs rt : Reg) (imm : Half)
  /-- `blezc rt, offset` (R220) -/
  | blezc (rt : Reg) (imm : Half)
  /-- `bgezc rt, offset` (R221) -/
  | bgezc (rt : Reg) (imm : Half)
  /-- `bgtzc rt, offset` (R222) -/
  | bgtzc (rt : Reg) (imm : Half)
  /-- `bltzc rt, offset` (R223) -/
  | bltzc (rt : Reg) (imm : Half)
  /-- `beqzc rs, offset` (R224) -/
  | beqzc (rs : Reg) (imm : Half)
  /-- `bnezc rs, offset` (R225) -/
  | bnezc (rs : Reg) (imm : Half)
  /-- `bovc rs, rt, offset` (R226) -/
  | bovc (rs rt : Reg) (imm : Half)
  /-- `bnvc rs, rt, offset` (R227) -/
  | bnvc (rs rt : Reg) (imm : Half)
  /-- `blezalc rt, offset` (R228) -/
  | blezalc (rt : Reg) (imm : Half)
  /-- `bgezalc rt, offset` (R229) -/
  | bgezalc (rt : Reg) (imm : Half)
  /-- `bgtzalc rt, offset` (R230) -/
  | bgtzalc (rt : Reg) (imm : Half)
  /-- `bltzalc rt, offset` (R231) -/
  | bltzalc (rt : Reg) (imm : Half)
  /-- `beqzalc rt, offset` (R232) -/
  | beqzalc (rt : Reg) (imm : Half)
  /-- `bnezalc rt, offset` (R233) -/
  | bnezalc (rt : Reg) (imm : Half)
  /-- `jic rt, offset` (R234) -/
  | jic (rt : Reg) (imm : Half)
  /-- `jialc rt, offset` (R235) -/
  | jialc (rt : Reg) (imm : Half)
  -- Floating-point arithmetic, selection, minimum, maximum, class (44_fpu_arithmetic.md)
  /-- `add.s fd, fs, ft` (R255) -/
  | addS (fd fs ft : Reg)
  /-- `add.d fd, fs, ft` (R256) -/
  | addD (fd fs ft : Reg)
  /-- `sub.s fd, fs, ft` (R257) -/
  | subS (fd fs ft : Reg)
  /-- `sub.d fd, fs, ft` (R258) -/
  | subD (fd fs ft : Reg)
  /-- `mul.s fd, fs, ft` (R259) -/
  | mulS (fd fs ft : Reg)
  /-- `mul.d fd, fs, ft` (R260) -/
  | mulD (fd fs ft : Reg)
  /-- `div.s fd, fs, ft` (R261) -/
  | divS (fd fs ft : Reg)
  /-- `div.d fd, fs, ft` (R262) -/
  | divD (fd fs ft : Reg)
  /-- `sqrt.s fd, fs` (R263) -/
  | sqrtS (fd fs : Reg)
  /-- `sqrt.d fd, fs` (R264) -/
  | sqrtD (fd fs : Reg)
  /-- `abs.s fd, fs` (R265) -/
  | absS (fd fs : Reg)
  /-- `abs.d fd, fs` (R266) -/
  | absD (fd fs : Reg)
  /-- `mov.s fd, fs` (R267) -/
  | movS (fd fs : Reg)
  /-- `mov.d fd, fs` (R268) -/
  | movD (fd fs : Reg)
  /-- `neg.s fd, fs` (R269) -/
  | negS (fd fs : Reg)
  /-- `neg.d fd, fs` (R270) -/
  | negD (fd fs : Reg)
  /-- `recip.s fd, fs` (R271) -/
  | recipS (fd fs : Reg)
  /-- `recip.d fd, fs` (R272) -/
  | recipD (fd fs : Reg)
  /-- `rsqrt.s fd, fs` (R273) -/
  | rsqrtS (fd fs : Reg)
  /-- `rsqrt.d fd, fs` (R274) -/
  | rsqrtD (fd fs : Reg)
  /-- `maddf.s fd, fs, ft` (R275) -/
  | maddfS (fd fs ft : Reg)
  /-- `maddf.d fd, fs, ft` (R276) -/
  | maddfD (fd fs ft : Reg)
  /-- `msubf.s fd, fs, ft` (R277) -/
  | msubfS (fd fs ft : Reg)
  /-- `msubf.d fd, fs, ft` (R278) -/
  | msubfD (fd fs ft : Reg)
  /-- `rint.s fd, fs` (R279) -/
  | rintS (fd fs : Reg)
  /-- `rint.d fd, fs` (R280) -/
  | rintD (fd fs : Reg)
  /-- `class.s fd, fs` (R281) -/
  | classS (fd fs : Reg)
  /-- `class.d fd, fs` (R282) -/
  | classD (fd fs : Reg)
  /-- `min.s fd, fs, ft` (R283) -/
  | minS (fd fs ft : Reg)
  /-- `min.d fd, fs, ft` (R284) -/
  | minD (fd fs ft : Reg)
  /-- `mina.s fd, fs, ft` (R285) -/
  | minaS (fd fs ft : Reg)
  /-- `mina.d fd, fs, ft` (R286) -/
  | minaD (fd fs ft : Reg)
  /-- `max.s fd, fs, ft` (R287) -/
  | maxS (fd fs ft : Reg)
  /-- `max.d fd, fs, ft` (R288) -/
  | maxD (fd fs ft : Reg)
  /-- `maxa.s fd, fs, ft` (R289) -/
  | maxaS (fd fs ft : Reg)
  /-- `maxa.d fd, fs, ft` (R290) -/
  | maxaD (fd fs ft : Reg)
  /-- `sel.s fd, fs, ft` (R291) -/
  | selS (fd fs ft : Reg)
  /-- `seleqz.s fd, fs, ft` (R292) -/
  | seleqzS (fd fs ft : Reg)
  /-- `selnez.s fd, fs, ft` (R293) -/
  | selnezS (fd fs ft : Reg)
  /-- `sel.d fd, fs, ft` (R294) -/
  | selD (fd fs ft : Reg)
  /-- `seleqz.d fd, fs, ft` (R295) -/
  | seleqzD (fd fs ft : Reg)
  /-- `selnez.d fd, fs, ft` (R296) -/
  | selnezD (fd fs ft : Reg)
  -- Floating-point comparisons (45_fpu_compare.md)
  /-- `cmp.af.s fd, fs, ft` (R323) -/
  | cmpAfS (fd fs ft : Reg)
  /-- `cmp.af.d fd, fs, ft` (R324) -/
  | cmpAfD (fd fs ft : Reg)
  /-- `cmp.un.s fd, fs, ft` (R325) -/
  | cmpUnS (fd fs ft : Reg)
  /-- `cmp.un.d fd, fs, ft` (R326) -/
  | cmpUnD (fd fs ft : Reg)
  /-- `cmp.eq.s fd, fs, ft` (R327) -/
  | cmpEqS (fd fs ft : Reg)
  /-- `cmp.eq.d fd, fs, ft` (R328) -/
  | cmpEqD (fd fs ft : Reg)
  /-- `cmp.ueq.s fd, fs, ft` (R329) -/
  | cmpUeqS (fd fs ft : Reg)
  /-- `cmp.ueq.d fd, fs, ft` (R330) -/
  | cmpUeqD (fd fs ft : Reg)
  /-- `cmp.lt.s fd, fs, ft` (R331) -/
  | cmpLtS (fd fs ft : Reg)
  /-- `cmp.lt.d fd, fs, ft` (R332) -/
  | cmpLtD (fd fs ft : Reg)
  /-- `cmp.ult.s fd, fs, ft` (R333) -/
  | cmpUltS (fd fs ft : Reg)
  /-- `cmp.ult.d fd, fs, ft` (R334) -/
  | cmpUltD (fd fs ft : Reg)
  /-- `cmp.le.s fd, fs, ft` (R335) -/
  | cmpLeS (fd fs ft : Reg)
  /-- `cmp.le.d fd, fs, ft` (R336) -/
  | cmpLeD (fd fs ft : Reg)
  /-- `cmp.ule.s fd, fs, ft` (R337) -/
  | cmpUleS (fd fs ft : Reg)
  /-- `cmp.ule.d fd, fs, ft` (R338) -/
  | cmpUleD (fd fs ft : Reg)
  /-- `cmp.saf.s fd, fs, ft` (R339) -/
  | cmpSafS (fd fs ft : Reg)
  /-- `cmp.saf.d fd, fs, ft` (R340) -/
  | cmpSafD (fd fs ft : Reg)
  /-- `cmp.sun.s fd, fs, ft` (R341) -/
  | cmpSunS (fd fs ft : Reg)
  /-- `cmp.sun.d fd, fs, ft` (R342) -/
  | cmpSunD (fd fs ft : Reg)
  /-- `cmp.seq.s fd, fs, ft` (R343) -/
  | cmpSeqS (fd fs ft : Reg)
  /-- `cmp.seq.d fd, fs, ft` (R344) -/
  | cmpSeqD (fd fs ft : Reg)
  /-- `cmp.sueq.s fd, fs, ft` (R345) -/
  | cmpSueqS (fd fs ft : Reg)
  /-- `cmp.sueq.d fd, fs, ft` (R346) -/
  | cmpSueqD (fd fs ft : Reg)
  /-- `cmp.slt.s fd, fs, ft` (R347) -/
  | cmpSltS (fd fs ft : Reg)
  /-- `cmp.slt.d fd, fs, ft` (R348) -/
  | cmpSltD (fd fs ft : Reg)
  /-- `cmp.sult.s fd, fs, ft` (R349) -/
  | cmpSultS (fd fs ft : Reg)
  /-- `cmp.sult.d fd, fs, ft` (R350) -/
  | cmpSultD (fd fs ft : Reg)
  /-- `cmp.sle.s fd, fs, ft` (R351) -/
  | cmpSleS (fd fs ft : Reg)
  /-- `cmp.sle.d fd, fs, ft` (R352) -/
  | cmpSleD (fd fs ft : Reg)
  /-- `cmp.sule.s fd, fs, ft` (R353) -/
  | cmpSuleS (fd fs ft : Reg)
  /-- `cmp.sule.d fd, fs, ft` (R354) -/
  | cmpSuleD (fd fs ft : Reg)
  /-- `cmp.or.s fd, fs, ft` (R355) -/
  | cmpOrS (fd fs ft : Reg)
  /-- `cmp.or.d fd, fs, ft` (R356) -/
  | cmpOrD (fd fs ft : Reg)
  /-- `cmp.une.s fd, fs, ft` (R357) -/
  | cmpUneS (fd fs ft : Reg)
  /-- `cmp.une.d fd, fs, ft` (R358) -/
  | cmpUneD (fd fs ft : Reg)
  /-- `cmp.ne.s fd, fs, ft` (R359) -/
  | cmpNeS (fd fs ft : Reg)
  /-- `cmp.ne.d fd, fs, ft` (R360) -/
  | cmpNeD (fd fs ft : Reg)
  /-- `cmp.sor.s fd, fs, ft` (R361) -/
  | cmpSorS (fd fs ft : Reg)
  /-- `cmp.sor.d fd, fs, ft` (R362) -/
  | cmpSorD (fd fs ft : Reg)
  /-- `cmp.sune.s fd, fs, ft` (R363) -/
  | cmpSuneS (fd fs ft : Reg)
  /-- `cmp.sune.d fd, fs, ft` (R364) -/
  | cmpSuneD (fd fs ft : Reg)
  /-- `cmp.sne.s fd, fs, ft` (R365) -/
  | cmpSneS (fd fs ft : Reg)
  /-- `cmp.sne.d fd, fs, ft` (R366) -/
  | cmpSneD (fd fs ft : Reg)
  -- Floating-point conversions and branches (46_fpu_convert_branch.md)
  /-- `cvt.s.d fd, fs` (R381) -/
  | cvtSD (fd fs : Reg)
  /-- `cvt.s.w fd, fs` (R382) -/
  | cvtSW (fd fs : Reg)
  /-- `cvt.s.l fd, fs` (R383) -/
  | cvtSL (fd fs : Reg)
  /-- `cvt.d.s fd, fs` (R384) -/
  | cvtDS (fd fs : Reg)
  /-- `cvt.d.w fd, fs` (R385) -/
  | cvtDW (fd fs : Reg)
  /-- `cvt.d.l fd, fs` (R386) -/
  | cvtDL (fd fs : Reg)
  /-- `cvt.w.s fd, fs` (R387) -/
  | cvtWS (fd fs : Reg)
  /-- `cvt.w.d fd, fs` (R388) -/
  | cvtWD (fd fs : Reg)
  /-- `cvt.l.s fd, fs` (R389) -/
  | cvtLS (fd fs : Reg)
  /-- `cvt.l.d fd, fs` (R390) -/
  | cvtLD (fd fs : Reg)
  /-- `round.w.s fd, fs` (R391) -/
  | roundWS (fd fs : Reg)
  /-- `round.w.d fd, fs` (R392) -/
  | roundWD (fd fs : Reg)
  /-- `round.l.s fd, fs` (R393) -/
  | roundLS (fd fs : Reg)
  /-- `round.l.d fd, fs` (R394) -/
  | roundLD (fd fs : Reg)
  /-- `trunc.w.s fd, fs` (R395) -/
  | truncWS (fd fs : Reg)
  /-- `trunc.w.d fd, fs` (R396) -/
  | truncWD (fd fs : Reg)
  /-- `trunc.l.s fd, fs` (R397) -/
  | truncLS (fd fs : Reg)
  /-- `trunc.l.d fd, fs` (R398) -/
  | truncLD (fd fs : Reg)
  /-- `ceil.w.s fd, fs` (R399) -/
  | ceilWS (fd fs : Reg)
  /-- `ceil.w.d fd, fs` (R400) -/
  | ceilWD (fd fs : Reg)
  /-- `ceil.l.s fd, fs` (R401) -/
  | ceilLS (fd fs : Reg)
  /-- `ceil.l.d fd, fs` (R402) -/
  | ceilLD (fd fs : Reg)
  /-- `floor.w.s fd, fs` (R403) -/
  | floorWS (fd fs : Reg)
  /-- `floor.w.d fd, fs` (R404) -/
  | floorWD (fd fs : Reg)
  /-- `floor.l.s fd, fs` (R405) -/
  | floorLS (fd fs : Reg)
  /-- `floor.l.d fd, fs` (R406) -/
  | floorLD (fd fs : Reg)
  /-- `bc1eqz ft, offset` (R407) -/
  | bc1eqz (ft : Reg) (imm : Half)
  /-- `bc1nez ft, offset` (R408) -/
  | bc1nez (ft : Reg) (imm : Half)
  -- Traps, fatal conditions and no-operations (47_trap_fatal_noop.md)
  /-- `tge rs, rt` (R422) -/
  | tge (rs rt : Reg) (code10 : BitVec 10)
  /-- `tgeu rs, rt` (R423) -/
  | tgeu (rs rt : Reg) (code10 : BitVec 10)
  /-- `tlt rs, rt` (R424) -/
  | tlt (rs rt : Reg) (code10 : BitVec 10)
  /-- `tltu rs, rt` (R425) -/
  | tltu (rs rt : Reg) (code10 : BitVec 10)
  /-- `teq rs, rt` (R426) -/
  | teq (rs rt : Reg) (code10 : BitVec 10)
  /-- `tne rs, rt` (R427) -/
  | tne (rs rt : Reg) (code10 : BitVec 10)
  /-- `break` (R428) -/
  | brk (code20 : BitVec 20)
  /-- `syscall` (R429) -/
  | syscall (code20 : BitVec 20)
  /-- `sdbbp` (R430) -/
  | sdbbp (code20 : BitVec 20)
  /-- `sigrie code` (R431) -/
  | sigrie (rs : Reg) (imm : Half)
  /-- `sync stype` (R435) -/
  | sync (stype : Reg)
  /-- `synci offset(base)` (R436) -/
  | synci (rs : Reg) (imm : Half)
  /-- `pref hint, offset(base)` (R437) -/
  | pref (hint base : Reg) (off9 : BitVec 9)
  /-- `prefe hint, offset(base)` (R438) -/
  | prefe (hint base : Reg) (off9 : BitVec 9)
  /-- `cache op, offset(base)` (R439) -/
  | cache (hint base : Reg) (off9 : BitVec 9)
  /-- `cachee op, offset(base)` (R440) -/
  | cachee (hint base : Reg) (off9 : BitVec 9)
  /-- `ginvi rs` (R441) -/
  | ginvi (rs : Reg) (gtype : BitVec 2)
  /-- `ginvt rs, type` (R442) -/
  | ginvt (rs : Reg) (gtype : BitVec 2)
  /-- `rdhwr rt, rd, sel` (R443) -/
  | rdhwr (rt rd : Reg)
  /-- `eret` (R444) -/
  | eret
  /-- `eretnc` (R445) -/
  | eretnc
  /-- `deret` (R446) -/
  | deret
  /-- `di rt` (R447) -/
  | di (rt : Reg)
  /-- `ei rt` (R448) -/
  | ei (rt : Reg)
  /-- `dvp rt` (R449) -/
  | dvp (rt : Reg)
  /-- `evp rt` (R450) -/
  | evp (rt : Reg)
  /-- `wait` (R451) -/
  | wait
  /-- `tlbr` (R452) -/
  | tlbr
  /-- `tlbwi` (R453) -/
  | tlbwi
  /-- `tlbinv` (R454) -/
  | tlbinv
  /-- `tlbinvf` (R455) -/
  | tlbinvf
  /-- `tlbwr` (R456) -/
  | tlbwr
  /-- `tlbp` (R457) -/
  | tlbp
  -- Loads, stores, LL and SC (48_load_store_atomic.md)
  /-- `lb rt, offset(base)` (R486) -/
  | lb (rt base : Reg) (off : Half)
  /-- `lbu rt, offset(base)` (R487) -/
  | lbu (rt base : Reg) (off : Half)
  /-- `lh rt, offset(base)` (R488) -/
  | lh (rt base : Reg) (off : Half)
  /-- `lhu rt, offset(base)` (R489) -/
  | lhu (rt base : Reg) (off : Half)
  /-- `lw rt, offset(base)` (R490) -/
  | lw (rt base : Reg) (off : Half)
  /-- `sb rt, offset(base)` (R491) -/
  | sb (rt base : Reg) (off : Half)
  /-- `sh rt, offset(base)` (R492) -/
  | sh (rt base : Reg) (off : Half)
  /-- `sw rt, offset(base)` (R493) -/
  | sw (rt base : Reg) (off : Half)
  /-- `lwpc rs, offset` (R494) -/
  | lwpc (rs : Reg) (imm19 : BitVec 19)
  /-- `lbe rt, offset(base)` (R495) -/
  | lbe (rt base : Reg) (off9 : BitVec 9)
  /-- `lbue rt, offset(base)` (R496) -/
  | lbue (rt base : Reg) (off9 : BitVec 9)
  /-- `lhe rt, offset(base)` (R497) -/
  | lhe (rt base : Reg) (off9 : BitVec 9)
  /-- `lhue rt, offset(base)` (R498) -/
  | lhue (rt base : Reg) (off9 : BitVec 9)
  /-- `lwe rt, offset(base)` (R499) -/
  | lwe (rt base : Reg) (off9 : BitVec 9)
  /-- `sbe rt, offset(base)` (R500) -/
  | sbe (rt base : Reg) (off9 : BitVec 9)
  /-- `she rt, offset(base)` (R501) -/
  | she (rt base : Reg) (off9 : BitVec 9)
  /-- `swe rt, offset(base)` (R502) -/
  | swe (rt base : Reg) (off9 : BitVec 9)
  /-- `ll rt, offset(base)` (R503) -/
  | ll (rt base : Reg) (off9 : BitVec 9)
  /-- `sc rt, offset(base)` (R504) -/
  | sc (rt base : Reg) (off9 : BitVec 9)
  /-- `llwp rt, rd, (base)` (R505) -/
  | llwp (rt rd base : Reg)
  /-- `scwp rt, rd, (base)` (R506) -/
  | scwp (rt rd base : Reg)
  /-- `lle rt, offset(base)` (R507) -/
  | lle (rt base : Reg) (off9 : BitVec 9)
  /-- `sce rt, offset(base)` (R508) -/
  | sce (rt base : Reg) (off9 : BitVec 9)
  /-- `llwpe rt, rd, (base)` (R509) -/
  | llwpe (rt rd base : Reg)
  /-- `scwpe rt, rd, (base)` (R510) -/
  | scwpe (rt rd base : Reg)
  /-- `lwc1 ft, offset(base)` (R511) -/
  | lwc1 (ft base : Reg) (off : Half)
  /-- `swc1 ft, offset(base)` (R512) -/
  | swc1 (ft base : Reg) (off : Half)
  /-- `ldc1 ft, offset(base)` (R513) -/
  | ldc1 (ft base : Reg) (off : Half)
  /-- `sdc1 ft, offset(base)` (R514) -/
  | sdc1 (ft base : Reg) (off : Half)
  -- Coprocessor and shadow register moves, COP2 memory and branches (49_coprocessor_moves.md)
  /-- `mfc1 rt, fs` (R533) -/
  | mfc1 (rt fs : Reg)
  /-- `mtc1 rt, fs` (R534) -/
  | mtc1 (rt fs : Reg)
  /-- `mfhc1 rt, fs` (R535) -/
  | mfhc1 (rt fs : Reg)
  /-- `mthc1 rt, fs` (R536) -/
  | mthc1 (rt fs : Reg)
  /-- `cfc1 rt, fs` (R537) -/
  | cfc1 (rt fs : Reg)
  /-- `ctc1 rt, fs` (R538) -/
  | ctc1 (rt fs : Reg)
  /-- `mfc2 rt, rd` (R539) -/
  | mfc2 (rt rd : Reg)
  /-- `mtc2 rt, rd` (R540) -/
  | mtc2 (rt rd : Reg)
  /-- `mfhc2 rt, rd` (R541) -/
  | mfhc2 (rt rd : Reg)
  /-- `mthc2 rt, rd` (R542) -/
  | mthc2 (rt rd : Reg)
  /-- `cfc2 rt, rd` (R543) -/
  | cfc2 (rt rd : Reg)
  /-- `ctc2 rt, rd` (R544) -/
  | ctc2 (rt rd : Reg)
  /-- `lwc2 rt, offset(base)` (R545) -/
  | lwc2 (rt base : Reg) (off11 : BitVec 11)
  /-- `swc2 rt, offset(base)` (R546) -/
  | swc2 (rt base : Reg) (off11 : BitVec 11)
  /-- `ldc2 rt, offset(base)` (R547) -/
  | ldc2 (rt base : Reg) (off11 : BitVec 11)
  /-- `sdc2 rt, offset(base)` (R548) -/
  | sdc2 (rt base : Reg) (off11 : BitVec 11)
  /-- `bc2eqz ct, offset` (R549) -/
  | bc2eqz (ct : Reg) (imm : Half)
  /-- `bc2nez ct, offset` (R550) -/
  | bc2nez (ct : Reg) (imm : Half)
  /-- `rdpgpr rd, rt` (R551) -/
  | rdpgpr (rd rt : Reg)
  /-- `wrpgpr rd, rt` (R552) -/
  | wrpgpr (rd rt : Reg)
deriving DecidableEq, Repr

end Sys2Proof
end

