-- ==== Sys2Proof/WellFormed.lean ====
section
/-! DEFINITION. Which instruction terms have an encoding: the register-field rules of the collision groups
(30_encoding.md R76 to R85). Every other operand value is encodable. -/

namespace Sys2Proof

/-- The register-field rule of the instruction's row (the `constraint` column; R74, R76 to R85), on the register numbers that are
operands. Where the rule fixes a field (rs = 0, rt = 0, rs = rt) that field is no operand and `encode` fills it in. -/
def wellFormed (i : Instr) : Bool :=
  match i with
  | .aui _ rs _ => decide (rs ≠ 0)
  | .bltzal rs _ => decide (rs ≠ 0)
  | .bgezal rs _ => decide (rs ≠ 0)
  | .beqc rs rt _ => decide (rs ≠ 0 ∧ rs < rt)
  | .bnec rs rt _ => decide (rs ≠ 0 ∧ rs < rt)
  | .bltc rs rt _ => decide (rs ≠ rt ∧ rs ≠ 0 ∧ rt ≠ 0)
  | .bgec rs rt _ => decide (rs ≠ rt ∧ rs ≠ 0 ∧ rt ≠ 0)
  | .bltuc rs rt _ => decide (rs ≠ rt ∧ rs ≠ 0 ∧ rt ≠ 0)
  | .bgeuc rs rt _ => decide (rs ≠ rt ∧ rs ≠ 0 ∧ rt ≠ 0)
  | .blezc rt _ => decide (rt ≠ 0)
  | .bgezc rt _ => decide (rt ≠ 0)
  | .bgtzc rt _ => decide (rt ≠ 0)
  | .bltzc rt _ => decide (rt ≠ 0)
  | .beqzc rs _ => decide (rs ≠ 0)
  | .bnezc rs _ => decide (rs ≠ 0)
  | .bovc rs rt _ => decide (rt ≤ rs ∧ rt ≠ 0)
  | .bnvc rs rt _ => decide (rt ≤ rs)
  | .blezalc rt _ => decide (rt ≠ 0)
  | .bgezalc rt _ => decide (rt ≠ 0)
  | .bgtzalc rt _ => decide (rt ≠ 0)
  | .bltzalc rt _ => decide (rt ≠ 0)
  | .beqzalc rt _ => decide (rt ≠ 0)
  | .bnezalc rt _ => decide (rt ≠ 0)
  | .jic rt _ => decide (rt ≠ 0)
  | .jialc rt _ => decide (rt ≠ 0)
  | .add _ _ _ => true
  | .addu _ _ _ => true
  | .sub _ _ _ => true
  | .subu _ _ _ => true
  | .addiu _ _ _ => true
  | .and _ _ _ => true
  | .or _ _ _ => true
  | .xor _ _ _ => true
  | .nor _ _ _ => true
  | .andi _ _ _ => true
  | .ori _ _ _ => true
  | .xori _ _ _ => true
  | .slt _ _ _ => true
  | .sltu _ _ _ => true
  | .slti _ _ _ => true
  | .sltiu _ _ _ => true
  | .lui _ _ => true
  | .seleqz _ _ _ => true
  | .selnez _ _ _ => true
  | .clz _ _ => true
  | .clo _ _ => true
  | .seb _ _ => true
  | .seh _ _ => true
  | .wsbh _ _ => true
  | .bitswap _ _ => true
  | .align _ _ _ _ => true
  | .ext _ _ _ _ => true
  | .ins _ _ _ _ => true
  | .lsa _ _ _ _ => true
  | .addiupc _ _ => true
  | .auipc _ _ => true
  | .aluipc _ _ => true
  | .sll _ _ _ => true
  | .srl _ _ _ => true
  | .sra _ _ _ => true
  | .sllv _ _ _ => true
  | .srlv _ _ _ => true
  | .srav _ _ _ => true
  | .rotr _ _ _ => true
  | .rotrv _ _ _ => true
  | .mult _ _ => true
  | .multu _ _ => true
  | .div _ _ => true
  | .divu _ _ => true
  | .mfhi _ => true
  | .mflo _ => true
  | .mthi _ => true
  | .mtlo _ => true
  | .madd _ _ => true
  | .maddu _ _ => true
  | .msub _ _ => true
  | .msubu _ _ => true
  | .mul _ _ _ => true
  | .muh _ _ _ => true
  | .mulu _ _ _ => true
  | .muhu _ _ _ => true
  | .divR6 _ _ _ => true
  | .mod _ _ _ => true
  | .divuR6 _ _ _ => true
  | .modu _ _ _ => true
  | .j _ => true
  | .jal _ => true
  | .jr _ => true
  | .jalr _ _ => true
  | .beq _ _ _ => true
  | .bne _ _ _ => true
  | .blez _ _ => true
  | .bgtz _ _ => true
  | .bltz _ _ => true
  | .bgez _ _ => true
  | .nal _ => true
  | .bal _ => true
  | .bc _ => true
  | .balc _ => true
  | .addS _ _ _ => true
  | .addD _ _ _ => true
  | .subS _ _ _ => true
  | .subD _ _ _ => true
  | .mulS _ _ _ => true
  | .mulD _ _ _ => true
  | .divS _ _ _ => true
  | .divD _ _ _ => true
  | .sqrtS _ _ => true
  | .sqrtD _ _ => true
  | .absS _ _ => true
  | .absD _ _ => true
  | .movS _ _ => true
  | .movD _ _ => true
  | .negS _ _ => true
  | .negD _ _ => true
  | .recipS _ _ => true
  | .recipD _ _ => true
  | .rsqrtS _ _ => true
  | .rsqrtD _ _ => true
  | .maddfS _ _ _ => true
  | .maddfD _ _ _ => true
  | .msubfS _ _ _ => true
  | .msubfD _ _ _ => true
  | .rintS _ _ => true
  | .rintD _ _ => true
  | .classS _ _ => true
  | .classD _ _ => true
  | .minS _ _ _ => true
  | .minD _ _ _ => true
  | .minaS _ _ _ => true
  | .minaD _ _ _ => true
  | .maxS _ _ _ => true
  | .maxD _ _ _ => true
  | .maxaS _ _ _ => true
  | .maxaD _ _ _ => true
  | .selS _ _ _ => true
  | .seleqzS _ _ _ => true
  | .selnezS _ _ _ => true
  | .selD _ _ _ => true
  | .seleqzD _ _ _ => true
  | .selnezD _ _ _ => true
  | .cmpAfS _ _ _ => true
  | .cmpAfD _ _ _ => true
  | .cmpUnS _ _ _ => true
  | .cmpUnD _ _ _ => true
  | .cmpEqS _ _ _ => true
  | .cmpEqD _ _ _ => true
  | .cmpUeqS _ _ _ => true
  | .cmpUeqD _ _ _ => true
  | .cmpLtS _ _ _ => true
  | .cmpLtD _ _ _ => true
  | .cmpUltS _ _ _ => true
  | .cmpUltD _ _ _ => true
  | .cmpLeS _ _ _ => true
  | .cmpLeD _ _ _ => true
  | .cmpUleS _ _ _ => true
  | .cmpUleD _ _ _ => true
  | .cmpSafS _ _ _ => true
  | .cmpSafD _ _ _ => true
  | .cmpSunS _ _ _ => true
  | .cmpSunD _ _ _ => true
  | .cmpSeqS _ _ _ => true
  | .cmpSeqD _ _ _ => true
  | .cmpSueqS _ _ _ => true
  | .cmpSueqD _ _ _ => true
  | .cmpSltS _ _ _ => true
  | .cmpSltD _ _ _ => true
  | .cmpSultS _ _ _ => true
  | .cmpSultD _ _ _ => true
  | .cmpSleS _ _ _ => true
  | .cmpSleD _ _ _ => true
  | .cmpSuleS _ _ _ => true
  | .cmpSuleD _ _ _ => true
  | .cmpOrS _ _ _ => true
  | .cmpOrD _ _ _ => true
  | .cmpUneS _ _ _ => true
  | .cmpUneD _ _ _ => true
  | .cmpNeS _ _ _ => true
  | .cmpNeD _ _ _ => true
  | .cmpSorS _ _ _ => true
  | .cmpSorD _ _ _ => true
  | .cmpSuneS _ _ _ => true
  | .cmpSuneD _ _ _ => true
  | .cmpSneS _ _ _ => true
  | .cmpSneD _ _ _ => true
  | .cvtSD _ _ => true
  | .cvtSW _ _ => true
  | .cvtSL _ _ => true
  | .cvtDS _ _ => true
  | .cvtDW _ _ => true
  | .cvtDL _ _ => true
  | .cvtWS _ _ => true
  | .cvtWD _ _ => true
  | .cvtLS _ _ => true
  | .cvtLD _ _ => true
  | .roundWS _ _ => true
  | .roundWD _ _ => true
  | .roundLS _ _ => true
  | .roundLD _ _ => true
  | .truncWS _ _ => true
  | .truncWD _ _ => true
  | .truncLS _ _ => true
  | .truncLD _ _ => true
  | .ceilWS _ _ => true
  | .ceilWD _ _ => true
  | .ceilLS _ _ => true
  | .ceilLD _ _ => true
  | .floorWS _ _ => true
  | .floorWD _ _ => true
  | .floorLS _ _ => true
  | .floorLD _ _ => true
  | .bc1eqz _ _ => true
  | .bc1nez _ _ => true
  | .tge _ _ _ => true
  | .tgeu _ _ _ => true
  | .tlt _ _ _ => true
  | .tltu _ _ _ => true
  | .teq _ _ _ => true
  | .tne _ _ _ => true
  | .brk _ => true
  | .syscall _ => true
  | .sdbbp _ => true
  | .sigrie _ _ => true
  | .sync _ => true
  | .synci _ _ => true
  | .pref _ _ _ => true
  | .prefe _ _ _ => true
  | .cache _ _ _ => true
  | .cachee _ _ _ => true
  | .ginvi _ _ => true
  | .ginvt _ _ => true
  | .rdhwr _ _ => true
  | .eret => true
  | .eretnc => true
  | .deret => true
  | .di _ => true
  | .ei _ => true
  | .dvp _ => true
  | .evp _ => true
  | .wait => true
  | .tlbr => true
  | .tlbwi => true
  | .tlbinv => true
  | .tlbinvf => true
  | .tlbwr => true
  | .tlbp => true
  | .lb _ _ _ => true
  | .lbu _ _ _ => true
  | .lh _ _ _ => true
  | .lhu _ _ _ => true
  | .lw _ _ _ => true
  | .sb _ _ _ => true
  | .sh _ _ _ => true
  | .sw _ _ _ => true
  | .lwpc _ _ => true
  | .lbe _ _ _ => true
  | .lbue _ _ _ => true
  | .lhe _ _ _ => true
  | .lhue _ _ _ => true
  | .lwe _ _ _ => true
  | .sbe _ _ _ => true
  | .she _ _ _ => true
  | .swe _ _ _ => true
  | .ll _ _ _ => true
  | .sc _ _ _ => true
  | .llwp _ _ _ => true
  | .scwp _ _ _ => true
  | .lle _ _ _ => true
  | .sce _ _ _ => true
  | .llwpe _ _ _ => true
  | .scwpe _ _ _ => true
  | .lwc1 _ _ _ => true
  | .swc1 _ _ _ => true
  | .ldc1 _ _ _ => true
  | .sdc1 _ _ _ => true
  | .mfc1 _ _ => true
  | .mtc1 _ _ => true
  | .mfhc1 _ _ => true
  | .mthc1 _ _ => true
  | .cfc1 _ _ => true
  | .ctc1 _ _ => true
  | .mfc2 _ _ => true
  | .mtc2 _ _ => true
  | .mfhc2 _ _ => true
  | .mthc2 _ _ => true
  | .cfc2 _ _ => true
  | .ctc2 _ _ => true
  | .lwc2 _ _ _ => true
  | .swc2 _ _ _ => true
  | .ldc2 _ _ _ => true
  | .sdc2 _ _ _ => true
  | .bc2eqz _ _ => true
  | .bc2nez _ _ => true
  | .rdpgpr _ _ => true
  | .wrpgpr _ _ => true

/-- A term that has an encoding. -/
abbrev WellFormed (i : Instr) : Prop := wellFormed i = true

end Sys2Proof
end

