-- ==== Sys2Proof/Decode.lean ====
section
/-! DEFINITION. The decoder: from a 32-bit word to an instruction or to none (30_encoding.md R70 to R99, opcode_table.json), and
after it the encoder, with the match and mask of every row. Opcode numbers: R94 to R98. -/

namespace Sys2Proof

-- `Instr` has more constructors with operands than the compiled runtime has tags for, so what builds one is not compiled. The kernel
-- evaluates every definition of this file.
noncomputable section

/-! ### The fields of an instruction word (R71, R72) -/

/-- Primary opcode, bits 31:26. -/
def opcodeF (w : Word) : BitVec 6 := w.extractLsb' 26 6
/-- Field rs (also base), bits 25:21. -/
def rsF (w : Word) : Reg := w.extractLsb' 21 5
/-- Field rt (also ft, ct, hint), bits 20:16. -/
def rtF (w : Word) : Reg := w.extractLsb' 16 5
/-- Field rd (also fs, msb), bits 15:11. -/
def rdF (w : Word) : Reg := w.extractLsb' 11 5
/-- Field base of the COP2 loads and stores, bits 15:11. -/
def base11 (w : Word) : Reg := w.extractLsb' 11 5
/-- Field sa (also fd, lsb, stype), bits 10:6. -/
def saF (w : Word) : Reg := w.extractLsb' 6 5
/-- Function code, bits 5:0. -/
def functF (w : Word) : BitVec 6 := w.extractLsb' 0 6
/-- Function code with bit 6, bits 6:0: the selector of the `S3-mem9` and `S3-pair` rows (R97). -/
def funct7F (w : Word) : BitVec 7 := w.extractLsb' 0 7
/-- Fields imm and off, bits 15:0. -/
def immF (w : Word) : Half := w.extractLsb' 0 16
/-- Fields index and off26, bits 25:0. -/
def indexF (w : Word) : BitVec 26 := w.extractLsb' 0 26
/-- Field imm19, bits 18:0. -/
def imm19F (w : Word) : BitVec 19 := w.extractLsb' 0 19
/-- Field off9, bits 15:7. -/
def off9F (w : Word) : BitVec 9 := w.extractLsb' 7 9
/-- Field off11, bits 10:0. -/
def off11F (w : Word) : BitVec 11 := w.extractLsb' 0 11
/-- Field code of BREAK, SYSCALL, SDBBP, bits 25:6. -/
def code20F (w : Word) : BitVec 20 := w.extractLsb' 6 20
/-- Field code of the traps, bits 15:6. -/
def code10F (w : Word) : BitVec 10 := w.extractLsb' 6 10
/-- Fields sa2 and bp, bits 7:6; also the selector between GINVI and GINVT. -/
def posF (w : Word) : BitVec 2 := w.extractLsb' 6 2
/-- Field type of GINVI and GINVT, bits 9:8. -/
def typeF (w : Word) : BitVec 2 := w.extractLsb' 8 2
/-- Bits 10:8, the selector of ALIGN (R97). -/
def alignF (w : Word) : BitVec 3 := w.extractLsb' 8 3
/-- Bits 20:19, the selector of ADDIUPC and LWPC (R96). -/
def pcrelF (w : Word) : BitVec 2 := w.extractLsb' 19 2
/-- Bit 25, set in the COP0 operation space (R98). -/
def coF (w : Word) : BitVec 1 := w.extractLsb' 25 1
/-- Bit 21, which tells SRL from ROTR (R95). -/
def bit21F (w : Word) : BitVec 1 := w.extractLsb' 21 1
/-- Bit 6, which tells SRLV from ROTRV and ERET from ERETNC (R95, R98). -/
def bit6F (w : Word) : BitVec 1 := w.extractLsb' 6 1

/-! ### The decoder, from the leaves to the primary opcode -/

/-- SPECIAL function 0x10: selected by the sa field (R95). -/
def decodeSpecial10 (w : Word) : Option Instr :=
  match saF w with
  | 0x00#5 => some (.mfhi (rdF w))
  | 0x01#5 => some (.clz (rdF w) (rsF w))
  | _ => none

/-- SPECIAL function 0x11: selected by the sa field (R95). -/
def decodeSpecial11 (w : Word) : Option Instr :=
  match saF w with
  | 0x00#5 => some (.mthi (rsF w))
  | 0x01#5 => some (.clo (rdF w) (rsF w))
  | _ => none

/-- SPECIAL function 0x18: selected by the sa field (R95). -/
def decodeSpecial18 (w : Word) : Option Instr :=
  match saF w with
  | 0x00#5 => some (.mult (rsF w) (rtF w))
  | 0x02#5 => some (.mul (rdF w) (rsF w) (rtF w))
  | 0x03#5 => some (.muh (rdF w) (rsF w) (rtF w))
  | _ => none

/-- SPECIAL function 0x19: selected by the sa field (R95). -/
def decodeSpecial19 (w : Word) : Option Instr :=
  match saF w with
  | 0x00#5 => some (.multu (rsF w) (rtF w))
  | 0x02#5 => some (.mulu (rdF w) (rsF w) (rtF w))
  | 0x03#5 => some (.muhu (rdF w) (rsF w) (rtF w))
  | _ => none

/-- SPECIAL function 0x1A: selected by the sa field (R95). -/
def decodeSpecial1A (w : Word) : Option Instr :=
  match saF w with
  | 0x00#5 => some (.div (rsF w) (rtF w))
  | 0x02#5 => some (.divR6 (rdF w) (rsF w) (rtF w))
  | 0x03#5 => some (.mod (rdF w) (rsF w) (rtF w))
  | _ => none

/-- SPECIAL function 0x1B: selected by the sa field (R95). -/
def decodeSpecial1B (w : Word) : Option Instr :=
  match saF w with
  | 0x00#5 => some (.divu (rsF w) (rtF w))
  | 0x02#5 => some (.divuR6 (rdF w) (rsF w) (rtF w))
  | 0x03#5 => some (.modu (rdF w) (rsF w) (rtF w))
  | _ => none

/-- SPECIAL, primary opcode 0x00: selected by the function code (R95). -/
def decodeSpecial (w : Word) : Option Instr :=
  match functF w with
  | 0x00#6 => some (.sll (rdF w) (rtF w) (saF w))
  | 0x02#6 => if bit21F w = 0 then some (.srl (rdF w) (rtF w) (saF w)) else some (.rotr (rdF w) (rtF w) (saF w))
  | 0x03#6 => some (.sra (rdF w) (rtF w) (saF w))
  | 0x04#6 => some (.sllv (rdF w) (rtF w) (rsF w))
  | 0x05#6 => some (.lsa (rdF w) (rsF w) (rtF w) (posF w))
  | 0x06#6 => if bit6F w = 0 then some (.srlv (rdF w) (rtF w) (rsF w)) else some (.rotrv (rdF w) (rtF w) (rsF w))
  | 0x07#6 => some (.srav (rdF w) (rtF w) (rsF w))
  | 0x08#6 => some (.jr (rsF w))
  | 0x09#6 => some (.jalr (rdF w) (rsF w))
  | 0x0C#6 => some (.syscall (code20F w))
  | 0x0D#6 => some (.brk (code20F w))
  | 0x0E#6 => some (.sdbbp (code20F w))
  | 0x0F#6 => some (.sync (saF w))
  | 0x10#6 => decodeSpecial10 w
  | 0x11#6 => decodeSpecial11 w
  | 0x12#6 => some (.mflo (rdF w))
  | 0x13#6 => some (.mtlo (rsF w))
  | 0x18#6 => decodeSpecial18 w
  | 0x19#6 => decodeSpecial19 w
  | 0x1A#6 => decodeSpecial1A w
  | 0x1B#6 => decodeSpecial1B w
  | 0x20#6 => some (.add (rdF w) (rsF w) (rtF w))
  | 0x21#6 => some (.addu (rdF w) (rsF w) (rtF w))
  | 0x22#6 => some (.sub (rdF w) (rsF w) (rtF w))
  | 0x23#6 => some (.subu (rdF w) (rsF w) (rtF w))
  | 0x24#6 => some (.and (rdF w) (rsF w) (rtF w))
  | 0x25#6 => some (.or (rdF w) (rsF w) (rtF w))
  | 0x26#6 => some (.xor (rdF w) (rsF w) (rtF w))
  | 0x27#6 => some (.nor (rdF w) (rsF w) (rtF w))
  | 0x2A#6 => some (.slt (rdF w) (rsF w) (rtF w))
  | 0x2B#6 => some (.sltu (rdF w) (rsF w) (rtF w))
  | 0x30#6 => some (.tge (rsF w) (rtF w) (code10F w))
  | 0x31#6 => some (.tgeu (rsF w) (rtF w) (code10F w))
  | 0x32#6 => some (.tlt (rsF w) (rtF w) (code10F w))
  | 0x33#6 => some (.tltu (rsF w) (rtF w) (code10F w))
  | 0x34#6 => some (.teq (rsF w) (rtF w) (code10F w))
  | 0x35#6 => some (.seleqz (rdF w) (rsF w) (rtF w))
  | 0x36#6 => some (.tne (rsF w) (rtF w) (code10F w))
  | 0x37#6 => some (.selnez (rdF w) (rsF w) (rtF w))
  | _ => none

/-- REGIMM, primary opcode 0x01: selected by the rt field; 0x10 and 0x11 also by rs (R84, R96). -/
def decodeRegimm (w : Word) : Option Instr :=
  match rtF w with
  | 0x00#5 => some (.bltz (rsF w) (immF w))
  | 0x01#5 => some (.bgez (rsF w) (immF w))
  | 0x10#5 => if rsF w = 0 then some (.nal (immF w)) else some (.bltzal (rsF w) (immF w))
  | 0x11#5 => if rsF w = 0 then some (.bal (immF w)) else some (.bgezal (rsF w) (immF w))
  | 0x17#5 => some (.sigrie (rsF w) (immF w))
  | 0x1F#5 => some (.synci (rsF w) (immF w))
  | _ => none

/-- Group POP06, primary opcode 0x06 (R76). -/
def decodePop06 (w : Word) : Option Instr :=
  if rtF w = 0 then some (.blez (rsF w) (immF w))
  else if rsF w = 0 then some (.blezalc (rtF w) (immF w))
  else if rsF w = rtF w then some (.bgezalc (rtF w) (immF w))
  else some (.bgeuc (rsF w) (rtF w) (immF w))

/-- Group POP07, primary opcode 0x07 (R77). -/
def decodePop07 (w : Word) : Option Instr :=
  if rtF w = 0 then some (.bgtz (rsF w) (immF w))
  else if rsF w = 0 then some (.bgtzalc (rtF w) (immF w))
  else if rsF w = rtF w then some (.bltzalc (rtF w) (immF w))
  else some (.bltuc (rsF w) (rtF w) (immF w))

/-- Group POP10, primary opcode 0x08 (R78); rt = 0 satisfies no rule. -/
def decodePop10 (w : Word) : Option Instr :=
  if rtF w = 0 then none
  else if rtF w ≤ rsF w then some (.bovc (rsF w) (rtF w) (immF w))
  else if rsF w = 0 then some (.beqzalc (rtF w) (immF w))
  else some (.beqc (rsF w) (rtF w) (immF w))

/-- Group POP30, primary opcode 0x18 (R79). -/
def decodePop30 (w : Word) : Option Instr :=
  if rtF w ≤ rsF w then some (.bnvc (rsF w) (rtF w) (immF w))
  else if rsF w = 0 then some (.bnezalc (rtF w) (immF w))
  else some (.bnec (rsF w) (rtF w) (immF w))

/-- Group POP26, primary opcode 0x16 (R80); rt = 0 satisfies no rule. -/
def decodePop26 (w : Word) : Option Instr :=
  if rtF w = 0 then none
  else if rsF w = 0 then some (.blezc (rtF w) (immF w))
  else if rsF w = rtF w then some (.bgezc (rtF w) (immF w))
  else some (.bgec (rsF w) (rtF w) (immF w))

/-- Group POP27, primary opcode 0x17 (R81); rt = 0 satisfies no rule. -/
def decodePop27 (w : Word) : Option Instr :=
  if rtF w = 0 then none
  else if rsF w = 0 then some (.bgtzc (rtF w) (immF w))
  else if rsF w = rtF w then some (.bltzc (rtF w) (immF w))
  else some (.bltc (rsF w) (rtF w) (immF w))

/-- Group POP66, primary opcode 0x36 (R82); rs = rt = 0 satisfies no rule. -/
def decodePop66 (w : Word) : Option Instr :=
  if rtF w ≠ 0 then some (.jic (rtF w) (immF w))
  else if rsF w = 0 then none
  else some (.beqzc (rsF w) (immF w))

/-- Group POP76, primary opcode 0x3E (R83); rs = rt = 0 satisfies no rule. -/
def decodePop76 (w : Word) : Option Instr :=
  if rtF w ≠ 0 then some (.jialc (rtF w) (immF w))
  else if rsF w = 0 then none
  else some (.bnezc (rsF w) (immF w))

/-- Primary opcode 0x0F: LUI when rs = 0, AUI otherwise (R85). -/
def decodeAui (w : Word) : Option Instr :=
  if rsF w = 0 then some (.lui (rtF w) (immF w))
  else some (.aui (rtF w) (rsF w) (immF w))

/-- SPECIAL2, primary opcode 0x1C: selected by the function code (R97). -/
def decodeSpecial2 (w : Word) : Option Instr :=
  match functF w with
  | 0x00#6 => some (.madd (rsF w) (rtF w))
  | 0x01#6 => some (.maddu (rsF w) (rtF w))
  | 0x04#6 => some (.msub (rsF w) (rtF w))
  | 0x05#6 => some (.msubu (rsF w) (rtF w))
  | _ => none

/-- SPECIAL3 function 0x20 (BSHFL) but for ALIGN: selected by the sa field (R97). -/
def decodeBshfl (w : Word) : Option Instr :=
  match saF w with
  | 0x00#5 => some (.bitswap (rdF w) (rtF w))
  | 0x02#5 => some (.wsbh (rdF w) (rtF w))
  | 0x10#5 => some (.seb (rdF w) (rtF w))
  | 0x18#5 => some (.seh (rdF w) (rtF w))
  | _ => none

/-- The `S3-mem9` and `S3-pair` rows of SPECIAL3: selected by bits 6:0 (R97). -/
def decodeSpecial3Mem (w : Word) : Option Instr :=
  match funct7F w with
  | 0x35#7 => some (.pref (rtF w) (rsF w) (off9F w))
  | 0x23#7 => some (.prefe (rtF w) (rsF w) (off9F w))
  | 0x25#7 => some (.cache (rtF w) (rsF w) (off9F w))
  | 0x1B#7 => some (.cachee (rtF w) (rsF w) (off9F w))
  | 0x2C#7 => some (.lbe (rtF w) (rsF w) (off9F w))
  | 0x28#7 => some (.lbue (rtF w) (rsF w) (off9F w))
  | 0x2D#7 => some (.lhe (rtF w) (rsF w) (off9F w))
  | 0x29#7 => some (.lhue (rtF w) (rsF w) (off9F w))
  | 0x2F#7 => some (.lwe (rtF w) (rsF w) (off9F w))
  | 0x1C#7 => some (.sbe (rtF w) (rsF w) (off9F w))
  | 0x1D#7 => some (.she (rtF w) (rsF w) (off9F w))
  | 0x1F#7 => some (.swe (rtF w) (rsF w) (off9F w))
  | 0x36#7 => some (.ll (rtF w) (rsF w) (off9F w))
  | 0x26#7 => some (.sc (rtF w) (rsF w) (off9F w))
  | 0x76#7 => some (.llwp (rtF w) (rdF w) (rsF w))
  | 0x66#7 => some (.scwp (rtF w) (rdF w) (rsF w))
  | 0x2E#7 => some (.lle (rtF w) (rsF w) (off9F w))
  | 0x1E#7 => some (.sce (rtF w) (rsF w) (off9F w))
  | 0x6E#7 => some (.llwpe (rtF w) (rdF w) (rsF w))
  | 0x5E#7 => some (.scwpe (rtF w) (rdF w) (rsF w))
  | _ => none

/-- SPECIAL3, primary opcode 0x1F: selected by the function code and, where rows share one, by further bits (R97). -/
def decodeSpecial3 (w : Word) : Option Instr :=
  match functF w with
  | 0x00#6 => some (.ext (rtF w) (rsF w) (rdF w) (saF w))
  | 0x04#6 => some (.ins (rtF w) (rsF w) (rdF w) (saF w))
  | 0x20#6 => if alignF w = 0b010#3 then some (.align (rdF w) (rsF w) (rtF w) (posF w)) else decodeBshfl w
  | 0x3B#6 => some (.rdhwr (rtF w) (rdF w))
  | 0x3D#6 => if posF w = 0b00#2 then some (.ginvi (rsF w) (typeF w)) else if posF w = 0b10#2 then some (.ginvt (rsF w) (typeF w)) else none
  | _ => decodeSpecial3Mem w

/-- PCREL, primary opcode 0x3B: selected by bits 20:19, and by bits 20:16 where these are 11 (R96). -/
def decodePcrel (w : Word) : Option Instr :=
  if pcrelF w = 0b00#2 then some (.addiupc (rsF w) (imm19F w))
  else if pcrelF w = 0b01#2 then some (.lwpc (rsF w) (imm19F w))
  else if rtF w = 0x1E#5 then some (.auipc (rsF w) (immF w))
  else if rtF w = 0x1F#5 then some (.aluipc (rsF w) (immF w))
  else none

/-- COP0 operations (bit 25 = 1): selected by the function code, ERET and ERETNC also by bit 6 (R98). -/
def decodeCo (w : Word) : Option Instr :=
  match functF w with
  | 0x18#6 => if bit6F w = 0 then some .eret else some .eretnc
  | 0x1F#6 => some .deret
  | 0x20#6 => some .wait
  | 0x01#6 => some .tlbr
  | 0x02#6 => some .tlbwi
  | 0x03#6 => some .tlbinv
  | 0x04#6 => some .tlbinvf
  | 0x06#6 => some .tlbwr
  | 0x08#6 => some .tlbp
  | _ => none

/-- COP0 with rs field 0x0B: selected by bits 15:0 (R98). -/
def decodeMfmc0 (w : Word) : Option Instr :=
  match immF w with
  | 0x6000#16 => some (.di (rtF w))
  | 0x6020#16 => some (.ei (rtF w))
  | 0x0024#16 => some (.dvp (rtF w))
  | 0x0004#16 => some (.evp (rtF w))
  | _ => none

/-- COP0, primary opcode 0x10 (R98). -/
def decodeCop0 (w : Word) : Option Instr :=
  if coF w = 1 then decodeCo w
  else match rsF w with
  | 0x0A#5 => some (.rdpgpr (rdF w) (rtF w))
  | 0x0B#5 => decodeMfmc0 w
  | 0x0E#5 => some (.wrpgpr (rdF w) (rtF w))
  | _ => none

/-- COP1 with rs field 0x10 (format S): selected by the function code (R98). -/
def decodeFmtS (w : Word) : Option Instr :=
  match functF w with
  | 0x00#6 => some (.addS (saF w) (rdF w) (rtF w))
  | 0x01#6 => some (.subS (saF w) (rdF w) (rtF w))
  | 0x02#6 => some (.mulS (saF w) (rdF w) (rtF w))
  | 0x03#6 => some (.divS (saF w) (rdF w) (rtF w))
  | 0x04#6 => some (.sqrtS (saF w) (rdF w))
  | 0x05#6 => some (.absS (saF w) (rdF w))
  | 0x06#6 => some (.movS (saF w) (rdF w))
  | 0x07#6 => some (.negS (saF w) (rdF w))
  | 0x08#6 => some (.roundLS (saF w) (rdF w))
  | 0x09#6 => some (.truncLS (saF w) (rdF w))
  | 0x0A#6 => some (.ceilLS (saF w) (rdF w))
  | 0x0B#6 => some (.floorLS (saF w) (rdF w))
  | 0x0C#6 => some (.roundWS (saF w) (rdF w))
  | 0x0D#6 => some (.truncWS (saF w) (rdF w))
  | 0x0E#6 => some (.ceilWS (saF w) (rdF w))
  | 0x0F#6 => some (.floorWS (saF w) (rdF w))
  | 0x10#6 => some (.selS (saF w) (rdF w) (rtF w))
  | 0x14#6 => some (.seleqzS (saF w) (rdF w) (rtF w))
  | 0x15#6 => some (.recipS (saF w) (rdF w))
  | 0x16#6 => some (.rsqrtS (saF w) (rdF w))
  | 0x17#6 => some (.selnezS (saF w) (rdF w) (rtF w))
  | 0x18#6 => some (.maddfS (saF w) (rdF w) (rtF w))
  | 0x19#6 => some (.msubfS (saF w) (rdF w) (rtF w))
  | 0x1A#6 => some (.rintS (saF w) (rdF w))
  | 0x1B#6 => some (.classS (saF w) (rdF w))
  | 0x1C#6 => some (.minS (saF w) (rdF w) (rtF w))
  | 0x1D#6 => some (.minaS (saF w) (rdF w) (rtF w))
  | 0x1E#6 => some (.maxS (saF w) (rdF w) (rtF w))
  | 0x1F#6 => some (.maxaS (saF w) (rdF w) (rtF w))
  | 0x21#6 => some (.cvtDS (saF w) (rdF w))
  | 0x24#6 => some (.cvtWS (saF w) (rdF w))
  | 0x25#6 => some (.cvtLS (saF w) (rdF w))
  | _ => none

/-- COP1 with rs field 0x11 (format D): selected by the function code (R98). -/
def decodeFmtD (w : Word) : Option Instr :=
  match functF w with
  | 0x00#6 => some (.addD (saF w) (rdF w) (rtF w))
  | 0x01#6 => some (.subD (saF w) (rdF w) (rtF w))
  | 0x02#6 => some (.mulD (saF w) (rdF w) (rtF w))
  | 0x03#6 => some (.divD (saF w) (rdF w) (rtF w))
  | 0x04#6 => some (.sqrtD (saF w) (rdF w))
  | 0x05#6 => some (.absD (saF w) (rdF w))
  | 0x06#6 => some (.movD (saF w) (rdF w))
  | 0x07#6 => some (.negD (saF w) (rdF w))
  | 0x08#6 => some (.roundLD (saF w) (rdF w))
  | 0x09#6 => some (.truncLD (saF w) (rdF w))
  | 0x0A#6 => some (.ceilLD (saF w) (rdF w))
  | 0x0B#6 => some (.floorLD (saF w) (rdF w))
  | 0x0C#6 => some (.roundWD (saF w) (rdF w))
  | 0x0D#6 => some (.truncWD (saF w) (rdF w))
  | 0x0E#6 => some (.ceilWD (saF w) (rdF w))
  | 0x0F#6 => some (.floorWD (saF w) (rdF w))
  | 0x10#6 => some (.selD (saF w) (rdF w) (rtF w))
  | 0x14#6 => some (.seleqzD (saF w) (rdF w) (rtF w))
  | 0x15#6 => some (.recipD (saF w) (rdF w))
  | 0x16#6 => some (.rsqrtD (saF w) (rdF w))
  | 0x17#6 => some (.selnezD (saF w) (rdF w) (rtF w))
  | 0x18#6 => some (.maddfD (saF w) (rdF w) (rtF w))
  | 0x19#6 => some (.msubfD (saF w) (rdF w) (rtF w))
  | 0x1A#6 => some (.rintD (saF w) (rdF w))
  | 0x1B#6 => some (.classD (saF w) (rdF w))
  | 0x1C#6 => some (.minD (saF w) (rdF w) (rtF w))
  | 0x1D#6 => some (.minaD (saF w) (rdF w) (rtF w))
  | 0x1E#6 => some (.maxD (saF w) (rdF w) (rtF w))
  | 0x1F#6 => some (.maxaD (saF w) (rdF w) (rtF w))
  | 0x20#6 => some (.cvtSD (saF w) (rdF w))
  | 0x24#6 => some (.cvtWD (saF w) (rdF w))
  | 0x25#6 => some (.cvtLD (saF w) (rdF w))
  | _ => none

/-- COP1 with rs field 0x14 (format W): selected by the function code (R98). -/
def decodeFmtW (w : Word) : Option Instr :=
  match functF w with
  | 0x00#6 => some (.cmpAfS (saF w) (rdF w) (rtF w))
  | 0x01#6 => some (.cmpUnS (saF w) (rdF w) (rtF w))
  | 0x02#6 => some (.cmpEqS (saF w) (rdF w) (rtF w))
  | 0x03#6 => some (.cmpUeqS (saF w) (rdF w) (rtF w))
  | 0x04#6 => some (.cmpLtS (saF w) (rdF w) (rtF w))
  | 0x05#6 => some (.cmpUltS (saF w) (rdF w) (rtF w))
  | 0x06#6 => some (.cmpLeS (saF w) (rdF w) (rtF w))
  | 0x07#6 => some (.cmpUleS (saF w) (rdF w) (rtF w))
  | 0x08#6 => some (.cmpSafS (saF w) (rdF w) (rtF w))
  | 0x09#6 => some (.cmpSunS (saF w) (rdF w) (rtF w))
  | 0x0A#6 => some (.cmpSeqS (saF w) (rdF w) (rtF w))
  | 0x0B#6 => some (.cmpSueqS (saF w) (rdF w) (rtF w))
  | 0x0C#6 => some (.cmpSltS (saF w) (rdF w) (rtF w))
  | 0x0D#6 => some (.cmpSultS (saF w) (rdF w) (rtF w))
  | 0x0E#6 => some (.cmpSleS (saF w) (rdF w) (rtF w))
  | 0x0F#6 => some (.cmpSuleS (saF w) (rdF w) (rtF w))
  | 0x11#6 => some (.cmpOrS (saF w) (rdF w) (rtF w))
  | 0x12#6 => some (.cmpUneS (saF w) (rdF w) (rtF w))
  | 0x13#6 => some (.cmpNeS (saF w) (rdF w) (rtF w))
  | 0x19#6 => some (.cmpSorS (saF w) (rdF w) (rtF w))
  | 0x1A#6 => some (.cmpSuneS (saF w) (rdF w) (rtF w))
  | 0x1B#6 => some (.cmpSneS (saF w) (rdF w) (rtF w))
  | 0x20#6 => some (.cvtSW (saF w) (rdF w))
  | 0x21#6 => some (.cvtDW (saF w) (rdF w))
  | _ => none

/-- COP1 with rs field 0x15 (format L): selected by the function code (R98). -/
def decodeFmtL (w : Word) : Option Instr :=
  match functF w with
  | 0x00#6 => some (.cmpAfD (saF w) (rdF w) (rtF w))
  | 0x01#6 => some (.cmpUnD (saF w) (rdF w) (rtF w))
  | 0x02#6 => some (.cmpEqD (saF w) (rdF w) (rtF w))
  | 0x03#6 => some (.cmpUeqD (saF w) (rdF w) (rtF w))
  | 0x04#6 => some (.cmpLtD (saF w) (rdF w) (rtF w))
  | 0x05#6 => some (.cmpUltD (saF w) (rdF w) (rtF w))
  | 0x06#6 => some (.cmpLeD (saF w) (rdF w) (rtF w))
  | 0x07#6 => some (.cmpUleD (saF w) (rdF w) (rtF w))
  | 0x08#6 => some (.cmpSafD (saF w) (rdF w) (rtF w))
  | 0x09#6 => some (.cmpSunD (saF w) (rdF w) (rtF w))
  | 0x0A#6 => some (.cmpSeqD (saF w) (rdF w) (rtF w))
  | 0x0B#6 => some (.cmpSueqD (saF w) (rdF w) (rtF w))
  | 0x0C#6 => some (.cmpSltD (saF w) (rdF w) (rtF w))
  | 0x0D#6 => some (.cmpSultD (saF w) (rdF w) (rtF w))
  | 0x0E#6 => some (.cmpSleD (saF w) (rdF w) (rtF w))
  | 0x0F#6 => some (.cmpSuleD (saF w) (rdF w) (rtF w))
  | 0x11#6 => some (.cmpOrD (saF w) (rdF w) (rtF w))
  | 0x12#6 => some (.cmpUneD (saF w) (rdF w) (rtF w))
  | 0x13#6 => some (.cmpNeD (saF w) (rdF w) (rtF w))
  | 0x19#6 => some (.cmpSorD (saF w) (rdF w) (rtF w))
  | 0x1A#6 => some (.cmpSuneD (saF w) (rdF w) (rtF w))
  | 0x1B#6 => some (.cmpSneD (saF w) (rdF w) (rtF w))
  | 0x20#6 => some (.cvtSL (saF w) (rdF w))
  | 0x21#6 => some (.cvtDL (saF w) (rdF w))
  | _ => none

/-- COP1, primary opcode 0x11: selected by the rs field (R98). -/
def decodeCop1 (w : Word) : Option Instr :=
  match rsF w with
  | 0x00#5 => some (.mfc1 (rtF w) (rdF w))
  | 0x02#5 => some (.cfc1 (rtF w) (rdF w))
  | 0x03#5 => some (.mfhc1 (rtF w) (rdF w))
  | 0x04#5 => some (.mtc1 (rtF w) (rdF w))
  | 0x06#5 => some (.ctc1 (rtF w) (rdF w))
  | 0x07#5 => some (.mthc1 (rtF w) (rdF w))
  | 0x09#5 => some (.bc1eqz (rtF w) (immF w))
  | 0x0D#5 => some (.bc1nez (rtF w) (immF w))
  | 0x10#5 => decodeFmtS w
  | 0x11#5 => decodeFmtD w
  | 0x14#5 => decodeFmtW w
  | 0x15#5 => decodeFmtL w
  | _ => none

/-- COP2, primary opcode 0x12: selected by the rs field (R89, R98). -/
def decodeCop2 (w : Word) : Option Instr :=
  match rsF w with
  | 0x00#5 => some (.mfc2 (rtF w) (rdF w))
  | 0x02#5 => some (.cfc2 (rtF w) (rdF w))
  | 0x03#5 => some (.mfhc2 (rtF w) (rdF w))
  | 0x04#5 => some (.mtc2 (rtF w) (rdF w))
  | 0x06#5 => some (.ctc2 (rtF w) (rdF w))
  | 0x07#5 => some (.mthc2 (rtF w) (rdF w))
  | 0x09#5 => some (.bc2eqz (rtF w) (immF w))
  | 0x0A#5 => some (.lwc2 (rtF w) (base11 w) (off11F w))
  | 0x0B#5 => some (.swc2 (rtF w) (base11 w) (off11F w))
  | 0x0D#5 => some (.bc2nez (rtF w) (immF w))
  | 0x0E#5 => some (.ldc2 (rtF w) (base11 w) (off11F w))
  | 0x0F#5 => some (.sdc2 (rtF w) (base11 w) (off11F w))
  | _ => none

/-- The decoder (R74): the instruction of a word, none where no row of the table has it (R87). It depends on the word alone. -/
def decode (w : Word) : Option Instr :=
  match opcodeF w with
  | 0x00#6 => decodeSpecial w
  | 0x01#6 => decodeRegimm w
  | 0x02#6 => some (.j (indexF w))
  | 0x03#6 => some (.jal (indexF w))
  | 0x04#6 => some (.beq (rsF w) (rtF w) (immF w))
  | 0x05#6 => some (.bne (rsF w) (rtF w) (immF w))
  | 0x06#6 => decodePop06 w
  | 0x07#6 => decodePop07 w
  | 0x08#6 => decodePop10 w
  | 0x09#6 => some (.addiu (rtF w) (rsF w) (immF w))
  | 0x0A#6 => some (.slti (rtF w) (rsF w) (immF w))
  | 0x0B#6 => some (.sltiu (rtF w) (rsF w) (immF w))
  | 0x0C#6 => some (.andi (rtF w) (rsF w) (immF w))
  | 0x0D#6 => some (.ori (rtF w) (rsF w) (immF w))
  | 0x0E#6 => some (.xori (rtF w) (rsF w) (immF w))
  | 0x0F#6 => decodeAui w
  | 0x10#6 => decodeCop0 w
  | 0x11#6 => decodeCop1 w
  | 0x12#6 => decodeCop2 w
  | 0x16#6 => decodePop26 w
  | 0x17#6 => decodePop27 w
  | 0x18#6 => decodePop30 w
  | 0x1C#6 => decodeSpecial2 w
  | 0x1F#6 => decodeSpecial3 w
  | 0x20#6 => some (.lb (rtF w) (rsF w) (immF w))
  | 0x21#6 => some (.lh (rtF w) (rsF w) (immF w))
  | 0x23#6 => some (.lw (rtF w) (rsF w) (immF w))
  | 0x24#6 => some (.lbu (rtF w) (rsF w) (immF w))
  | 0x25#6 => some (.lhu (rtF w) (rsF w) (immF w))
  | 0x28#6 => some (.sb (rtF w) (rsF w) (immF w))
  | 0x29#6 => some (.sh (rtF w) (rsF w) (immF w))
  | 0x2B#6 => some (.sw (rtF w) (rsF w) (immF w))
  | 0x31#6 => some (.lwc1 (rtF w) (rsF w) (immF w))
  | 0x32#6 => some (.bc (indexF w))
  | 0x35#6 => some (.ldc1 (rtF w) (rsF w) (immF w))
  | 0x36#6 => decodePop66 w
  | 0x39#6 => some (.swc1 (rtF w) (rsF w) (immF w))
  | 0x3A#6 => some (.balc (indexF w))
  | 0x3B#6 => decodePcrel w
  | 0x3D#6 => some (.sdc1 (rtF w) (rsF w) (immF w))
  | 0x3E#6 => decodePop76 w
  | _ => none

/-- The words of a collision group that satisfy no register-field rule, for which the parameter DECODE_FALLBACK speaks (R86). -/
def uncovered (w : Word) : Bool :=
  match opcodeF w with
  | 0x08#6 => rtF w == 0
  | 0x16#6 => rtF w == 0
  | 0x17#6 => rtF w == 0
  | 0x36#6 => rsF w == 0 && rtF w == 0
  | 0x3E#6 => rsF w == 0 && rtF w == 0
  | _ => false

/-- The four bytes of a word as the memory holds them, the most significant first (20_memory.md R54, R70). -/
def bytesOfWord (w : Word) : List Byte :=
  [w.extractLsb' 24 8, w.extractLsb' 16 8, w.extractLsb' 8 8, w.extractLsb' 0 8]

/-- Decoding the bytes that stand at an address: the first four form the word, big-endian (R54, R70). -/
def decodeBytes : List Byte → Option Instr
  | b0 :: b1 :: b2 :: b3 :: _ => decode (b0 ++ b1 ++ b2 ++ b3)
  | _ => none

/-- What the decoder reads from the instruction word whose bits are `w`, laid out in memory as the machine stores it. -/
def decodeTableWord (_nbits w : Nat) : Option Instr :=
  decodeBytes (bytesOfWord (BitVec.ofNat 32 w))

/-! ### The encoder -/

/-- Layout `R` and the register layouts of the coprocessors: opcode, four 5-bit fields, function (R72). -/
def packR (op : BitVec 6) (rs rt rd sa : Reg) (fn : BitVec 6) : Word := op ++ rs ++ rt ++ rd ++ sa ++ fn
/-- Layouts `I`, `I-regimm`, `I-mem`, `I-fmem`, `I-pc16` and the coprocessor branches (R72). -/
def packI (op : BitVec 6) (rs rt : Reg) (imm : Half) : Word := op ++ rs ++ rt ++ imm
/-- Layouts `J` and `I-off26` (R72). -/
def packJ (op : BitVec 6) (index : BitVec 26) : Word := op ++ index
/-- Layouts `S3-mem9` and, with rd and zeros as the offset, `S3-pair` (R72, R97). -/
def packMem9 (base rt : Reg) (off9 : BitVec 9) (fn : BitVec 7) : Word := 0x1F#6 ++ base ++ rt ++ off9 ++ fn
/-- Layout `I-pc19` (R72, R96). -/
def packPc19 (rs : Reg) (sel : BitVec 2) (imm19 : BitVec 19) : Word := 0x3B#6 ++ rs ++ sel ++ imm19
/-- Layout `CP2-mem11` (R72, R98). -/
def packMem11 (sub rt base : Reg) (off11 : BitVec 11) : Word := 0x12#6 ++ sub ++ rt ++ base ++ off11
/-- Layout `R-code20` (R72, R95). -/
def packCode20 (code : BitVec 20) (fn : BitVec 6) : Word := 0x00#6 ++ code ++ fn
/-- Layout `R-code10` (R72, R95). -/
def packCode10 (rs rt : Reg) (code : BitVec 10) (fn : BitVec 6) : Word := 0x00#6 ++ rs ++ rt ++ code ++ fn

/-- The word of an instruction: its row's match, its operands in their fields, and zero in every bit that is not examined (R75). -/
def encode (i : Instr) : Word :=
  match i with
  | .add rd rs rt => packR 0x00#6 rs rt rd 0x00#5 0x20#6
  | .addu rd rs rt => packR 0x00#6 rs rt rd 0x00#5 0x21#6
  | .sub rd rs rt => packR 0x00#6 rs rt rd 0x00#5 0x22#6
  | .subu rd rs rt => packR 0x00#6 rs rt rd 0x00#5 0x23#6
  | .addiu rt rs imm => packI 0x09#6 rs rt imm
  | .and rd rs rt => packR 0x00#6 rs rt rd 0x00#5 0x24#6
  | .or rd rs rt => packR 0x00#6 rs rt rd 0x00#5 0x25#6
  | .xor rd rs rt => packR 0x00#6 rs rt rd 0x00#5 0x26#6
  | .nor rd rs rt => packR 0x00#6 rs rt rd 0x00#5 0x27#6
  | .andi rt rs imm => packI 0x0C#6 rs rt imm
  | .ori rt rs imm => packI 0x0D#6 rs rt imm
  | .xori rt rs imm => packI 0x0E#6 rs rt imm
  | .slt rd rs rt => packR 0x00#6 rs rt rd 0x00#5 0x2A#6
  | .sltu rd rs rt => packR 0x00#6 rs rt rd 0x00#5 0x2B#6
  | .slti rt rs imm => packI 0x0A#6 rs rt imm
  | .sltiu rt rs imm => packI 0x0B#6 rs rt imm
  | .lui rt imm => packI 0x0F#6 0x00#5 rt imm
  | .aui rt rs imm => packI 0x0F#6 rs rt imm
  | .seleqz rd rs rt => packR 0x00#6 rs rt rd 0x00#5 0x35#6
  | .selnez rd rs rt => packR 0x00#6 rs rt rd 0x00#5 0x37#6
  | .clz rd rs => packR 0x00#6 rs 0x00#5 rd 0x01#5 0x10#6
  | .clo rd rs => packR 0x00#6 rs 0x00#5 rd 0x01#5 0x11#6
  | .seb rd rt => packR 0x1F#6 0x00#5 rt rd 0x10#5 0x20#6
  | .seh rd rt => packR 0x1F#6 0x00#5 rt rd 0x18#5 0x20#6
  | .wsbh rd rt => packR 0x1F#6 0x00#5 rt rd 0x02#5 0x20#6
  | .bitswap rd rt => packR 0x1F#6 0x00#5 rt rd 0x00#5 0x20#6
  | .align rd rs rt bp => packR 0x1F#6 rs rt rd (0b010#3 ++ bp) 0x20#6
  | .ext rt rs msb lsb => packR 0x1F#6 rs rt msb lsb 0x00#6
  | .ins rt rs msb lsb => packR 0x1F#6 rs rt msb lsb 0x04#6
  | .lsa rd rs rt sa2 => packR 0x00#6 rs rt rd (0b000#3 ++ sa2) 0x05#6
  | .addiupc rs imm19 => packPc19 rs 0b00#2 imm19
  | .auipc rs imm => packI 0x3B#6 rs 0x1E#5 imm
  | .aluipc rs imm => packI 0x3B#6 rs 0x1F#5 imm
  | .sll rd rt sa => packR 0x00#6 0x00#5 rt rd sa 0x00#6
  | .srl rd rt sa => packR 0x00#6 0x00#5 rt rd sa 0x02#6
  | .sra rd rt sa => packR 0x00#6 0x00#5 rt rd sa 0x03#6
  | .sllv rd rt rs => packR 0x00#6 rs rt rd 0x00#5 0x04#6
  | .srlv rd rt rs => packR 0x00#6 rs rt rd 0x00#5 0x06#6
  | .srav rd rt rs => packR 0x00#6 rs rt rd 0x00#5 0x07#6
  | .rotr rd rt sa => packR 0x00#6 0x01#5 rt rd sa 0x02#6
  | .rotrv rd rt rs => packR 0x00#6 rs rt rd 0x01#5 0x06#6
  | .mult rs rt => packR 0x00#6 rs rt 0x00#5 0x00#5 0x18#6
  | .multu rs rt => packR 0x00#6 rs rt 0x00#5 0x00#5 0x19#6
  | .div rs rt => packR 0x00#6 rs rt 0x00#5 0x00#5 0x1A#6
  | .divu rs rt => packR 0x00#6 rs rt 0x00#5 0x00#5 0x1B#6
  | .mfhi rd => packR 0x00#6 0x00#5 0x00#5 rd 0x00#5 0x10#6
  | .mflo rd => packR 0x00#6 0x00#5 0x00#5 rd 0x00#5 0x12#6
  | .mthi rs => packR 0x00#6 rs 0x00#5 0x00#5 0x00#5 0x11#6
  | .mtlo rs => packR 0x00#6 rs 0x00#5 0x00#5 0x00#5 0x13#6
  | .madd rs rt => packR 0x1C#6 rs rt 0x00#5 0x00#5 0x00#6
  | .maddu rs rt => packR 0x1C#6 rs rt 0x00#5 0x00#5 0x01#6
  | .msub rs rt => packR 0x1C#6 rs rt 0x00#5 0x00#5 0x04#6
  | .msubu rs rt => packR 0x1C#6 rs rt 0x00#5 0x00#5 0x05#6
  | .mul rd rs rt => packR 0x00#6 rs rt rd 0x02#5 0x18#6
  | .muh rd rs rt => packR 0x00#6 rs rt rd 0x03#5 0x18#6
  | .mulu rd rs rt => packR 0x00#6 rs rt rd 0x02#5 0x19#6
  | .muhu rd rs rt => packR 0x00#6 rs rt rd 0x03#5 0x19#6
  | .divR6 rd rs rt => packR 0x00#6 rs rt rd 0x02#5 0x1A#6
  | .mod rd rs rt => packR 0x00#6 rs rt rd 0x03#5 0x1A#6
  | .divuR6 rd rs rt => packR 0x00#6 rs rt rd 0x02#5 0x1B#6
  | .modu rd rs rt => packR 0x00#6 rs rt rd 0x03#5 0x1B#6
  | .j index => packJ 0x02#6 index
  | .jal index => packJ 0x03#6 index
  | .jr rs => packR 0x00#6 rs 0x00#5 0x00#5 0x00#5 0x08#6
  | .jalr rd rs => packR 0x00#6 rs 0x00#5 rd 0x00#5 0x09#6
  | .beq rs rt imm => packI 0x04#6 rs rt imm
  | .bne rs rt imm => packI 0x05#6 rs rt imm
  | .blez rs imm => packI 0x06#6 rs 0x00#5 imm
  | .bgtz rs imm => packI 0x07#6 rs 0x00#5 imm
  | .bltz rs imm => packI 0x01#6 rs 0x00#5 imm
  | .bgez rs imm => packI 0x01#6 rs 0x01#5 imm
  | .bltzal rs imm => packI 0x01#6 rs 0x10#5 imm
  | .nal imm => packI 0x01#6 0x00#5 0x10#5 imm
  | .bgezal rs imm => packI 0x01#6 rs 0x11#5 imm
  | .bal imm => packI 0x01#6 0x00#5 0x11#5 imm
  | .bc off26 => packJ 0x32#6 off26
  | .balc off26 => packJ 0x3A#6 off26
  | .beqc rs rt imm => packI 0x08#6 rs rt imm
  | .bnec rs rt imm => packI 0x18#6 rs rt imm
  | .bltc rs rt imm => packI 0x17#6 rs rt imm
  | .bgec rs rt imm => packI 0x16#6 rs rt imm
  | .bltuc rs rt imm => packI 0x07#6 rs rt imm
  | .bgeuc rs rt imm => packI 0x06#6 rs rt imm
  | .blezc rt imm => packI 0x16#6 0x00#5 rt imm
  | .bgezc rt imm => packI 0x16#6 rt rt imm
  | .bgtzc rt imm => packI 0x17#6 0x00#5 rt imm
  | .bltzc rt imm => packI 0x17#6 rt rt imm
  | .beqzc rs imm => packI 0x36#6 rs 0x00#5 imm
  | .bnezc rs imm => packI 0x3E#6 rs 0x00#5 imm
  | .bovc rs rt imm => packI 0x08#6 rs rt imm
  | .bnvc rs rt imm => packI 0x18#6 rs rt imm
  | .blezalc rt imm => packI 0x06#6 0x00#5 rt imm
  | .bgezalc rt imm => packI 0x06#6 rt rt imm
  | .bgtzalc rt imm => packI 0x07#6 0x00#5 rt imm
  | .bltzalc rt imm => packI 0x07#6 rt rt imm
  | .beqzalc rt imm => packI 0x08#6 0x00#5 rt imm
  | .bnezalc rt imm => packI 0x18#6 0x00#5 rt imm
  | .jic rt imm => packI 0x36#6 0x00#5 rt imm
  | .jialc rt imm => packI 0x3E#6 0x00#5 rt imm
  | .addS fd fs ft => packR 0x11#6 0x10#5 ft fs fd 0x00#6
  | .addD fd fs ft => packR 0x11#6 0x11#5 ft fs fd 0x00#6
  | .subS fd fs ft => packR 0x11#6 0x10#5 ft fs fd 0x01#6
  | .subD fd fs ft => packR 0x11#6 0x11#5 ft fs fd 0x01#6
  | .mulS fd fs ft => packR 0x11#6 0x10#5 ft fs fd 0x02#6
  | .mulD fd fs ft => packR 0x11#6 0x11#5 ft fs fd 0x02#6
  | .divS fd fs ft => packR 0x11#6 0x10#5 ft fs fd 0x03#6
  | .divD fd fs ft => packR 0x11#6 0x11#5 ft fs fd 0x03#6
  | .sqrtS fd fs => packR 0x11#6 0x10#5 0x00#5 fs fd 0x04#6
  | .sqrtD fd fs => packR 0x11#6 0x11#5 0x00#5 fs fd 0x04#6
  | .absS fd fs => packR 0x11#6 0x10#5 0x00#5 fs fd 0x05#6
  | .absD fd fs => packR 0x11#6 0x11#5 0x00#5 fs fd 0x05#6
  | .movS fd fs => packR 0x11#6 0x10#5 0x00#5 fs fd 0x06#6
  | .movD fd fs => packR 0x11#6 0x11#5 0x00#5 fs fd 0x06#6
  | .negS fd fs => packR 0x11#6 0x10#5 0x00#5 fs fd 0x07#6
  | .negD fd fs => packR 0x11#6 0x11#5 0x00#5 fs fd 0x07#6
  | .recipS fd fs => packR 0x11#6 0x10#5 0x00#5 fs fd 0x15#6
  | .recipD fd fs => packR 0x11#6 0x11#5 0x00#5 fs fd 0x15#6
  | .rsqrtS fd fs => packR 0x11#6 0x10#5 0x00#5 fs fd 0x16#6
  | .rsqrtD fd fs => packR 0x11#6 0x11#5 0x00#5 fs fd 0x16#6
  | .maddfS fd fs ft => packR 0x11#6 0x10#5 ft fs fd 0x18#6
  | .maddfD fd fs ft => packR 0x11#6 0x11#5 ft fs fd 0x18#6
  | .msubfS fd fs ft => packR 0x11#6 0x10#5 ft fs fd 0x19#6
  | .msubfD fd fs ft => packR 0x11#6 0x11#5 ft fs fd 0x19#6
  | .rintS fd fs => packR 0x11#6 0x10#5 0x00#5 fs fd 0x1A#6
  | .rintD fd fs => packR 0x11#6 0x11#5 0x00#5 fs fd 0x1A#6
  | .classS fd fs => packR 0x11#6 0x10#5 0x00#5 fs fd 0x1B#6
  | .classD fd fs => packR 0x11#6 0x11#5 0x00#5 fs fd 0x1B#6
  | .minS fd fs ft => packR 0x11#6 0x10#5 ft fs fd 0x1C#6
  | .minD fd fs ft => packR 0x11#6 0x11#5 ft fs fd 0x1C#6
  | .minaS fd fs ft => packR 0x11#6 0x10#5 ft fs fd 0x1D#6
  | .minaD fd fs ft => packR 0x11#6 0x11#5 ft fs fd 0x1D#6
  | .maxS fd fs ft => packR 0x11#6 0x10#5 ft fs fd 0x1E#6
  | .maxD fd fs ft => packR 0x11#6 0x11#5 ft fs fd 0x1E#6
  | .maxaS fd fs ft => packR 0x11#6 0x10#5 ft fs fd 0x1F#6
  | .maxaD fd fs ft => packR 0x11#6 0x11#5 ft fs fd 0x1F#6
  | .selS fd fs ft => packR 0x11#6 0x10#5 ft fs fd 0x10#6
  | .seleqzS fd fs ft => packR 0x11#6 0x10#5 ft fs fd 0x14#6
  | .selnezS fd fs ft => packR 0x11#6 0x10#5 ft fs fd 0x17#6
  | .selD fd fs ft => packR 0x11#6 0x11#5 ft fs fd 0x10#6
  | .seleqzD fd fs ft => packR 0x11#6 0x11#5 ft fs fd 0x14#6
  | .selnezD fd fs ft => packR 0x11#6 0x11#5 ft fs fd 0x17#6
  | .cmpAfS fd fs ft => packR 0x11#6 0x14#5 ft fs fd 0x00#6
  | .cmpAfD fd fs ft => packR 0x11#6 0x15#5 ft fs fd 0x00#6
  | .cmpUnS fd fs ft => packR 0x11#6 0x14#5 ft fs fd 0x01#6
  | .cmpUnD fd fs ft => packR 0x11#6 0x15#5 ft fs fd 0x01#6
  | .cmpEqS fd fs ft => packR 0x11#6 0x14#5 ft fs fd 0x02#6
  | .cmpEqD fd fs ft => packR 0x11#6 0x15#5 ft fs fd 0x02#6
  | .cmpUeqS fd fs ft => packR 0x11#6 0x14#5 ft fs fd 0x03#6
  | .cmpUeqD fd fs ft => packR 0x11#6 0x15#5 ft fs fd 0x03#6
  | .cmpLtS fd fs ft => packR 0x11#6 0x14#5 ft fs fd 0x04#6
  | .cmpLtD fd fs ft => packR 0x11#6 0x15#5 ft fs fd 0x04#6
  | .cmpUltS fd fs ft => packR 0x11#6 0x14#5 ft fs fd 0x05#6
  | .cmpUltD fd fs ft => packR 0x11#6 0x15#5 ft fs fd 0x05#6
  | .cmpLeS fd fs ft => packR 0x11#6 0x14#5 ft fs fd 0x06#6
  | .cmpLeD fd fs ft => packR 0x11#6 0x15#5 ft fs fd 0x06#6
  | .cmpUleS fd fs ft => packR 0x11#6 0x14#5 ft fs fd 0x07#6
  | .cmpUleD fd fs ft => packR 0x11#6 0x15#5 ft fs fd 0x07#6
  | .cmpSafS fd fs ft => packR 0x11#6 0x14#5 ft fs fd 0x08#6
  | .cmpSafD fd fs ft => packR 0x11#6 0x15#5 ft fs fd 0x08#6
  | .cmpSunS fd fs ft => packR 0x11#6 0x14#5 ft fs fd 0x09#6
  | .cmpSunD fd fs ft => packR 0x11#6 0x15#5 ft fs fd 0x09#6
  | .cmpSeqS fd fs ft => packR 0x11#6 0x14#5 ft fs fd 0x0A#6
  | .cmpSeqD fd fs ft => packR 0x11#6 0x15#5 ft fs fd 0x0A#6
  | .cmpSueqS fd fs ft => packR 0x11#6 0x14#5 ft fs fd 0x0B#6
  | .cmpSueqD fd fs ft => packR 0x11#6 0x15#5 ft fs fd 0x0B#6
  | .cmpSltS fd fs ft => packR 0x11#6 0x14#5 ft fs fd 0x0C#6
  | .cmpSltD fd fs ft => packR 0x11#6 0x15#5 ft fs fd 0x0C#6
  | .cmpSultS fd fs ft => packR 0x11#6 0x14#5 ft fs fd 0x0D#6
  | .cmpSultD fd fs ft => packR 0x11#6 0x15#5 ft fs fd 0x0D#6
  | .cmpSleS fd fs ft => packR 0x11#6 0x14#5 ft fs fd 0x0E#6
  | .cmpSleD fd fs ft => packR 0x11#6 0x15#5 ft fs fd 0x0E#6
  | .cmpSuleS fd fs ft => packR 0x11#6 0x14#5 ft fs fd 0x0F#6
  | .cmpSuleD fd fs ft => packR 0x11#6 0x15#5 ft fs fd 0x0F#6
  | .cmpOrS fd fs ft => packR 0x11#6 0x14#5 ft fs fd 0x11#6
  | .cmpOrD fd fs ft => packR 0x11#6 0x15#5 ft fs fd 0x11#6
  | .cmpUneS fd fs ft => packR 0x11#6 0x14#5 ft fs fd 0x12#6
  | .cmpUneD fd fs ft => packR 0x11#6 0x15#5 ft fs fd 0x12#6
  | .cmpNeS fd fs ft => packR 0x11#6 0x14#5 ft fs fd 0x13#6
  | .cmpNeD fd fs ft => packR 0x11#6 0x15#5 ft fs fd 0x13#6
  | .cmpSorS fd fs ft => packR 0x11#6 0x14#5 ft fs fd 0x19#6
  | .cmpSorD fd fs ft => packR 0x11#6 0x15#5 ft fs fd 0x19#6
  | .cmpSuneS fd fs ft => packR 0x11#6 0x14#5 ft fs fd 0x1A#6
  | .cmpSuneD fd fs ft => packR 0x11#6 0x15#5 ft fs fd 0x1A#6
  | .cmpSneS fd fs ft => packR 0x11#6 0x14#5 ft fs fd 0x1B#6
  | .cmpSneD fd fs ft => packR 0x11#6 0x15#5 ft fs fd 0x1B#6
  | .cvtSD fd fs => packR 0x11#6 0x11#5 0x00#5 fs fd 0x20#6
  | .cvtSW fd fs => packR 0x11#6 0x14#5 0x00#5 fs fd 0x20#6
  | .cvtSL fd fs => packR 0x11#6 0x15#5 0x00#5 fs fd 0x20#6
  | .cvtDS fd fs => packR 0x11#6 0x10#5 0x00#5 fs fd 0x21#6
  | .cvtDW fd fs => packR 0x11#6 0x14#5 0x00#5 fs fd 0x21#6
  | .cvtDL fd fs => packR 0x11#6 0x15#5 0x00#5 fs fd 0x21#6
  | .cvtWS fd fs => packR 0x11#6 0x10#5 0x00#5 fs fd 0x24#6
  | .cvtWD fd fs => packR 0x11#6 0x11#5 0x00#5 fs fd 0x24#6
  | .cvtLS fd fs => packR 0x11#6 0x10#5 0x00#5 fs fd 0x25#6
  | .cvtLD fd fs => packR 0x11#6 0x11#5 0x00#5 fs fd 0x25#6
  | .roundWS fd fs => packR 0x11#6 0x10#5 0x00#5 fs fd 0x0C#6
  | .roundWD fd fs => packR 0x11#6 0x11#5 0x00#5 fs fd 0x0C#6
  | .roundLS fd fs => packR 0x11#6 0x10#5 0x00#5 fs fd 0x08#6
  | .roundLD fd fs => packR 0x11#6 0x11#5 0x00#5 fs fd 0x08#6
  | .truncWS fd fs => packR 0x11#6 0x10#5 0x00#5 fs fd 0x0D#6
  | .truncWD fd fs => packR 0x11#6 0x11#5 0x00#5 fs fd 0x0D#6
  | .truncLS fd fs => packR 0x11#6 0x10#5 0x00#5 fs fd 0x09#6
  | .truncLD fd fs => packR 0x11#6 0x11#5 0x00#5 fs fd 0x09#6
  | .ceilWS fd fs => packR 0x11#6 0x10#5 0x00#5 fs fd 0x0E#6
  | .ceilWD fd fs => packR 0x11#6 0x11#5 0x00#5 fs fd 0x0E#6
  | .ceilLS fd fs => packR 0x11#6 0x10#5 0x00#5 fs fd 0x0A#6
  | .ceilLD fd fs => packR 0x11#6 0x11#5 0x00#5 fs fd 0x0A#6
  | .floorWS fd fs => packR 0x11#6 0x10#5 0x00#5 fs fd 0x0F#6
  | .floorWD fd fs => packR 0x11#6 0x11#5 0x00#5 fs fd 0x0F#6
  | .floorLS fd fs => packR 0x11#6 0x10#5 0x00#5 fs fd 0x0B#6
  | .floorLD fd fs => packR 0x11#6 0x11#5 0x00#5 fs fd 0x0B#6
  | .bc1eqz ft imm => packI 0x11#6 0x09#5 ft imm
  | .bc1nez ft imm => packI 0x11#6 0x0D#5 ft imm
  | .tge rs rt code10 => packCode10 rs rt code10 0x30#6
  | .tgeu rs rt code10 => packCode10 rs rt code10 0x31#6
  | .tlt rs rt code10 => packCode10 rs rt code10 0x32#6
  | .tltu rs rt code10 => packCode10 rs rt code10 0x33#6
  | .teq rs rt code10 => packCode10 rs rt code10 0x34#6
  | .tne rs rt code10 => packCode10 rs rt code10 0x36#6
  | .brk code20 => packCode20 code20 0x0D#6
  | .syscall code20 => packCode20 code20 0x0C#6
  | .sdbbp code20 => packCode20 code20 0x0E#6
  | .sigrie rs imm => packI 0x01#6 rs 0x17#5 imm
  | .sync stype => packR 0x00#6 0x00#5 0x00#5 0x00#5 stype 0x0F#6
  | .synci rs imm => packI 0x01#6 rs 0x1F#5 imm
  | .pref hint base off9 => packMem9 base hint off9 0x35#7
  | .prefe hint base off9 => packMem9 base hint off9 0x23#7
  | .cache hint base off9 => packMem9 base hint off9 0x25#7
  | .cachee hint base off9 => packMem9 base hint off9 0x1B#7
  | .ginvi rs gtype => packR 0x1F#6 rs 0x00#5 0x00#5 (0b0#1 ++ gtype ++ 0b00#2) 0x3D#6
  | .ginvt rs gtype => packR 0x1F#6 rs 0x00#5 0x00#5 (0b0#1 ++ gtype ++ 0b10#2) 0x3D#6
  | .rdhwr rt rd => packR 0x1F#6 0x00#5 rt rd 0x00#5 0x3B#6
  | .eret => packR 0x10#6 0x10#5 0x00#5 0x00#5 0x00#5 0x18#6
  | .eretnc => packR 0x10#6 0x10#5 0x00#5 0x00#5 0x01#5 0x18#6
  | .deret => packR 0x10#6 0x10#5 0x00#5 0x00#5 0x00#5 0x1F#6
  | .di rt => packI 0x10#6 0x0B#5 rt 0x6000#16
  | .ei rt => packI 0x10#6 0x0B#5 rt 0x6020#16
  | .dvp rt => packI 0x10#6 0x0B#5 rt 0x0024#16
  | .evp rt => packI 0x10#6 0x0B#5 rt 0x0004#16
  | .wait => packR 0x10#6 0x10#5 0x00#5 0x00#5 0x00#5 0x20#6
  | .tlbr => packR 0x10#6 0x10#5 0x00#5 0x00#5 0x00#5 0x01#6
  | .tlbwi => packR 0x10#6 0x10#5 0x00#5 0x00#5 0x00#5 0x02#6
  | .tlbinv => packR 0x10#6 0x10#5 0x00#5 0x00#5 0x00#5 0x03#6
  | .tlbinvf => packR 0x10#6 0x10#5 0x00#5 0x00#5 0x00#5 0x04#6
  | .tlbwr => packR 0x10#6 0x10#5 0x00#5 0x00#5 0x00#5 0x06#6
  | .tlbp => packR 0x10#6 0x10#5 0x00#5 0x00#5 0x00#5 0x08#6
  | .lb rt base off => packI 0x20#6 base rt off
  | .lbu rt base off => packI 0x24#6 base rt off
  | .lh rt base off => packI 0x21#6 base rt off
  | .lhu rt base off => packI 0x25#6 base rt off
  | .lw rt base off => packI 0x23#6 base rt off
  | .sb rt base off => packI 0x28#6 base rt off
  | .sh rt base off => packI 0x29#6 base rt off
  | .sw rt base off => packI 0x2B#6 base rt off
  | .lwpc rs imm19 => packPc19 rs 0b01#2 imm19
  | .lbe rt base off9 => packMem9 base rt off9 0x2C#7
  | .lbue rt base off9 => packMem9 base rt off9 0x28#7
  | .lhe rt base off9 => packMem9 base rt off9 0x2D#7
  | .lhue rt base off9 => packMem9 base rt off9 0x29#7
  | .lwe rt base off9 => packMem9 base rt off9 0x2F#7
  | .sbe rt base off9 => packMem9 base rt off9 0x1C#7
  | .she rt base off9 => packMem9 base rt off9 0x1D#7
  | .swe rt base off9 => packMem9 base rt off9 0x1F#7
  | .ll rt base off9 => packMem9 base rt off9 0x36#7
  | .sc rt base off9 => packMem9 base rt off9 0x26#7
  | .llwp rt rd base => packMem9 base rt (rd ++ 0#4) 0x76#7
  | .scwp rt rd base => packMem9 base rt (rd ++ 0#4) 0x66#7
  | .lle rt base off9 => packMem9 base rt off9 0x2E#7
  | .sce rt base off9 => packMem9 base rt off9 0x1E#7
  | .llwpe rt rd base => packMem9 base rt (rd ++ 0#4) 0x6E#7
  | .scwpe rt rd base => packMem9 base rt (rd ++ 0#4) 0x5E#7
  | .lwc1 ft base off => packI 0x31#6 base ft off
  | .swc1 ft base off => packI 0x39#6 base ft off
  | .ldc1 ft base off => packI 0x35#6 base ft off
  | .sdc1 ft base off => packI 0x3D#6 base ft off
  | .mfc1 rt fs => packR 0x11#6 0x00#5 rt fs 0x00#5 0x00#6
  | .mtc1 rt fs => packR 0x11#6 0x04#5 rt fs 0x00#5 0x00#6
  | .mfhc1 rt fs => packR 0x11#6 0x03#5 rt fs 0x00#5 0x00#6
  | .mthc1 rt fs => packR 0x11#6 0x07#5 rt fs 0x00#5 0x00#6
  | .cfc1 rt fs => packR 0x11#6 0x02#5 rt fs 0x00#5 0x00#6
  | .ctc1 rt fs => packR 0x11#6 0x06#5 rt fs 0x00#5 0x00#6
  | .mfc2 rt rd => packR 0x12#6 0x00#5 rt rd 0x00#5 0x00#6
  | .mtc2 rt rd => packR 0x12#6 0x04#5 rt rd 0x00#5 0x00#6
  | .mfhc2 rt rd => packR 0x12#6 0x03#5 rt rd 0x00#5 0x00#6
  | .mthc2 rt rd => packR 0x12#6 0x07#5 rt rd 0x00#5 0x00#6
  | .cfc2 rt rd => packR 0x12#6 0x02#5 rt rd 0x00#5 0x00#6
  | .ctc2 rt rd => packR 0x12#6 0x06#5 rt rd 0x00#5 0x00#6
  | .lwc2 rt base off11 => packMem11 0x0A#5 rt base off11
  | .swc2 rt base off11 => packMem11 0x0B#5 rt base off11
  | .ldc2 rt base off11 => packMem11 0x0E#5 rt base off11
  | .sdc2 rt base off11 => packMem11 0x0F#5 rt base off11
  | .bc2eqz ct imm => packI 0x12#6 0x09#5 ct imm
  | .bc2nez ct imm => packI 0x12#6 0x0D#5 ct imm
  | .rdpgpr rd rt => packR 0x10#6 0x0A#5 rt rd 0x00#5 0x00#6
  | .wrpgpr rd rt => packR 0x10#6 0x0E#5 rt rd 0x00#5 0x00#6

/-- A row of spec/opcode_table.json: the fixed bits and which bits they are (R74, R90). -/
structure Row where
  /-- The value of the fixed bits (`match`). -/
  bits : Word
  /-- Which bits are fixed (`mask`). -/
  mask : Word
deriving DecidableEq, Repr

/-- The row of an instruction, copied from spec/opcode_table.json (R74). -/
def rowOf (i : Instr) : Row :=
  match i with
  | .add _ _ _ => ⟨0x00000020#32, 0xFC00003F#32⟩
  | .addu _ _ _ => ⟨0x00000021#32, 0xFC00003F#32⟩
  | .sub _ _ _ => ⟨0x00000022#32, 0xFC00003F#32⟩
  | .subu _ _ _ => ⟨0x00000023#32, 0xFC00003F#32⟩
  | .addiu _ _ _ => ⟨0x24000000#32, 0xFC000000#32⟩
  | .and _ _ _ => ⟨0x00000024#32, 0xFC00003F#32⟩
  | .or _ _ _ => ⟨0x00000025#32, 0xFC00003F#32⟩
  | .xor _ _ _ => ⟨0x00000026#32, 0xFC00003F#32⟩
  | .nor _ _ _ => ⟨0x00000027#32, 0xFC00003F#32⟩
  | .andi _ _ _ => ⟨0x30000000#32, 0xFC000000#32⟩
  | .ori _ _ _ => ⟨0x34000000#32, 0xFC000000#32⟩
  | .xori _ _ _ => ⟨0x38000000#32, 0xFC000000#32⟩
  | .slt _ _ _ => ⟨0x0000002A#32, 0xFC00003F#32⟩
  | .sltu _ _ _ => ⟨0x0000002B#32, 0xFC00003F#32⟩
  | .slti _ _ _ => ⟨0x28000000#32, 0xFC000000#32⟩
  | .sltiu _ _ _ => ⟨0x2C000000#32, 0xFC000000#32⟩
  | .lui _ _ => ⟨0x3C000000#32, 0xFC000000#32⟩
  | .aui _ _ _ => ⟨0x3C000000#32, 0xFC000000#32⟩
  | .seleqz _ _ _ => ⟨0x00000035#32, 0xFC00003F#32⟩
  | .selnez _ _ _ => ⟨0x00000037#32, 0xFC00003F#32⟩
  | .clz _ _ => ⟨0x00000050#32, 0xFC0007FF#32⟩
  | .clo _ _ => ⟨0x00000051#32, 0xFC0007FF#32⟩
  | .seb _ _ => ⟨0x7C000420#32, 0xFC0007FF#32⟩
  | .seh _ _ => ⟨0x7C000620#32, 0xFC0007FF#32⟩
  | .wsbh _ _ => ⟨0x7C0000A0#32, 0xFC0007FF#32⟩
  | .bitswap _ _ => ⟨0x7C000020#32, 0xFC0007FF#32⟩
  | .align _ _ _ _ => ⟨0x7C000220#32, 0xFC00073F#32⟩
  | .ext _ _ _ _ => ⟨0x7C000000#32, 0xFC00003F#32⟩
  | .ins _ _ _ _ => ⟨0x7C000004#32, 0xFC00003F#32⟩
  | .lsa _ _ _ _ => ⟨0x00000005#32, 0xFC00003F#32⟩
  | .addiupc _ _ => ⟨0xEC000000#32, 0xFC180000#32⟩
  | .auipc _ _ => ⟨0xEC1E0000#32, 0xFC1F0000#32⟩
  | .aluipc _ _ => ⟨0xEC1F0000#32, 0xFC1F0000#32⟩
  | .sll _ _ _ => ⟨0x00000000#32, 0xFC00003F#32⟩
  | .srl _ _ _ => ⟨0x00000002#32, 0xFC20003F#32⟩
  | .sra _ _ _ => ⟨0x00000003#32, 0xFC00003F#32⟩
  | .sllv _ _ _ => ⟨0x00000004#32, 0xFC00003F#32⟩
  | .srlv _ _ _ => ⟨0x00000006#32, 0xFC00007F#32⟩
  | .srav _ _ _ => ⟨0x00000007#32, 0xFC00003F#32⟩
  | .rotr _ _ _ => ⟨0x00200002#32, 0xFC20003F#32⟩
  | .rotrv _ _ _ => ⟨0x00000046#32, 0xFC00007F#32⟩
  | .mult _ _ => ⟨0x00000018#32, 0xFC0007FF#32⟩
  | .multu _ _ => ⟨0x00000019#32, 0xFC0007FF#32⟩
  | .div _ _ => ⟨0x0000001A#32, 0xFC0007FF#32⟩
  | .divu _ _ => ⟨0x0000001B#32, 0xFC0007FF#32⟩
  | .mfhi _ => ⟨0x00000010#32, 0xFC0007FF#32⟩
  | .mflo _ => ⟨0x00000012#32, 0xFC00003F#32⟩
  | .mthi _ => ⟨0x00000011#32, 0xFC0007FF#32⟩
  | .mtlo _ => ⟨0x00000013#32, 0xFC00003F#32⟩
  | .madd _ _ => ⟨0x70000000#32, 0xFC00003F#32⟩
  | .maddu _ _ => ⟨0x70000001#32, 0xFC00003F#32⟩
  | .msub _ _ => ⟨0x70000004#32, 0xFC00003F#32⟩
  | .msubu _ _ => ⟨0x70000005#32, 0xFC00003F#32⟩
  | .mul _ _ _ => ⟨0x00000098#32, 0xFC0007FF#32⟩
  | .muh _ _ _ => ⟨0x000000D8#32, 0xFC0007FF#32⟩
  | .mulu _ _ _ => ⟨0x00000099#32, 0xFC0007FF#32⟩
  | .muhu _ _ _ => ⟨0x000000D9#32, 0xFC0007FF#32⟩
  | .divR6 _ _ _ => ⟨0x0000009A#32, 0xFC0007FF#32⟩
  | .mod _ _ _ => ⟨0x000000DA#32, 0xFC0007FF#32⟩
  | .divuR6 _ _ _ => ⟨0x0000009B#32, 0xFC0007FF#32⟩
  | .modu _ _ _ => ⟨0x000000DB#32, 0xFC0007FF#32⟩
  | .j _ => ⟨0x08000000#32, 0xFC000000#32⟩
  | .jal _ => ⟨0x0C000000#32, 0xFC000000#32⟩
  | .jr _ => ⟨0x00000008#32, 0xFC00003F#32⟩
  | .jalr _ _ => ⟨0x00000009#32, 0xFC00003F#32⟩
  | .beq _ _ _ => ⟨0x10000000#32, 0xFC000000#32⟩
  | .bne _ _ _ => ⟨0x14000000#32, 0xFC000000#32⟩
  | .blez _ _ => ⟨0x18000000#32, 0xFC000000#32⟩
  | .bgtz _ _ => ⟨0x1C000000#32, 0xFC000000#32⟩
  | .bltz _ _ => ⟨0x04000000#32, 0xFC1F0000#32⟩
  | .bgez _ _ => ⟨0x04010000#32, 0xFC1F0000#32⟩
  | .bltzal _ _ => ⟨0x04100000#32, 0xFC1F0000#32⟩
  | .nal _ => ⟨0x04100000#32, 0xFC1F0000#32⟩
  | .bgezal _ _ => ⟨0x04110000#32, 0xFC1F0000#32⟩
  | .bal _ => ⟨0x04110000#32, 0xFC1F0000#32⟩
  | .bc _ => ⟨0xC8000000#32, 0xFC000000#32⟩
  | .balc _ => ⟨0xE8000000#32, 0xFC000000#32⟩
  | .beqc _ _ _ => ⟨0x20000000#32, 0xFC000000#32⟩
  | .bnec _ _ _ => ⟨0x60000000#32, 0xFC000000#32⟩
  | .bltc _ _ _ => ⟨0x5C000000#32, 0xFC000000#32⟩
  | .bgec _ _ _ => ⟨0x58000000#32, 0xFC000000#32⟩
  | .bltuc _ _ _ => ⟨0x1C000000#32, 0xFC000000#32⟩
  | .bgeuc _ _ _ => ⟨0x18000000#32, 0xFC000000#32⟩
  | .blezc _ _ => ⟨0x58000000#32, 0xFC000000#32⟩
  | .bgezc _ _ => ⟨0x58000000#32, 0xFC000000#32⟩
  | .bgtzc _ _ => ⟨0x5C000000#32, 0xFC000000#32⟩
  | .bltzc _ _ => ⟨0x5C000000#32, 0xFC000000#32⟩
  | .beqzc _ _ => ⟨0xD8000000#32, 0xFC000000#32⟩
  | .bnezc _ _ => ⟨0xF8000000#32, 0xFC000000#32⟩
  | .bovc _ _ _ => ⟨0x20000000#32, 0xFC000000#32⟩
  | .bnvc _ _ _ => ⟨0x60000000#32, 0xFC000000#32⟩
  | .blezalc _ _ => ⟨0x18000000#32, 0xFC000000#32⟩
  | .bgezalc _ _ => ⟨0x18000000#32, 0xFC000000#32⟩
  | .bgtzalc _ _ => ⟨0x1C000000#32, 0xFC000000#32⟩
  | .bltzalc _ _ => ⟨0x1C000000#32, 0xFC000000#32⟩
  | .beqzalc _ _ => ⟨0x20000000#32, 0xFC000000#32⟩
  | .bnezalc _ _ => ⟨0x60000000#32, 0xFC000000#32⟩
  | .jic _ _ => ⟨0xD8000000#32, 0xFC000000#32⟩
  | .jialc _ _ => ⟨0xF8000000#32, 0xFC000000#32⟩
  | .addS _ _ _ => ⟨0x46000000#32, 0xFFE0003F#32⟩
  | .addD _ _ _ => ⟨0x46200000#32, 0xFFE0003F#32⟩
  | .subS _ _ _ => ⟨0x46000001#32, 0xFFE0003F#32⟩
  | .subD _ _ _ => ⟨0x46200001#32, 0xFFE0003F#32⟩
  | .mulS _ _ _ => ⟨0x46000002#32, 0xFFE0003F#32⟩
  | .mulD _ _ _ => ⟨0x46200002#32, 0xFFE0003F#32⟩
  | .divS _ _ _ => ⟨0x46000003#32, 0xFFE0003F#32⟩
  | .divD _ _ _ => ⟨0x46200003#32, 0xFFE0003F#32⟩
  | .sqrtS _ _ => ⟨0x46000004#32, 0xFFE0003F#32⟩
  | .sqrtD _ _ => ⟨0x46200004#32, 0xFFE0003F#32⟩
  | .absS _ _ => ⟨0x46000005#32, 0xFFE0003F#32⟩
  | .absD _ _ => ⟨0x46200005#32, 0xFFE0003F#32⟩
  | .movS _ _ => ⟨0x46000006#32, 0xFFE0003F#32⟩
  | .movD _ _ => ⟨0x46200006#32, 0xFFE0003F#32⟩
  | .negS _ _ => ⟨0x46000007#32, 0xFFE0003F#32⟩
  | .negD _ _ => ⟨0x46200007#32, 0xFFE0003F#32⟩
  | .recipS _ _ => ⟨0x46000015#32, 0xFFE0003F#32⟩
  | .recipD _ _ => ⟨0x46200015#32, 0xFFE0003F#32⟩
  | .rsqrtS _ _ => ⟨0x46000016#32, 0xFFE0003F#32⟩
  | .rsqrtD _ _ => ⟨0x46200016#32, 0xFFE0003F#32⟩
  | .maddfS _ _ _ => ⟨0x46000018#32, 0xFFE0003F#32⟩
  | .maddfD _ _ _ => ⟨0x46200018#32, 0xFFE0003F#32⟩
  | .msubfS _ _ _ => ⟨0x46000019#32, 0xFFE0003F#32⟩
  | .msubfD _ _ _ => ⟨0x46200019#32, 0xFFE0003F#32⟩
  | .rintS _ _ => ⟨0x4600001A#32, 0xFFE0003F#32⟩
  | .rintD _ _ => ⟨0x4620001A#32, 0xFFE0003F#32⟩
  | .classS _ _ => ⟨0x4600001B#32, 0xFFE0003F#32⟩
  | .classD _ _ => ⟨0x4620001B#32, 0xFFE0003F#32⟩
  | .minS _ _ _ => ⟨0x4600001C#32, 0xFFE0003F#32⟩
  | .minD _ _ _ => ⟨0x4620001C#32, 0xFFE0003F#32⟩
  | .minaS _ _ _ => ⟨0x4600001D#32, 0xFFE0003F#32⟩
  | .minaD _ _ _ => ⟨0x4620001D#32, 0xFFE0003F#32⟩
  | .maxS _ _ _ => ⟨0x4600001E#32, 0xFFE0003F#32⟩
  | .maxD _ _ _ => ⟨0x4620001E#32, 0xFFE0003F#32⟩
  | .maxaS _ _ _ => ⟨0x4600001F#32, 0xFFE0003F#32⟩
  | .maxaD _ _ _ => ⟨0x4620001F#32, 0xFFE0003F#32⟩
  | .selS _ _ _ => ⟨0x46000010#32, 0xFFE0003F#32⟩
  | .seleqzS _ _ _ => ⟨0x46000014#32, 0xFFE0003F#32⟩
  | .selnezS _ _ _ => ⟨0x46000017#32, 0xFFE0003F#32⟩
  | .selD _ _ _ => ⟨0x46200010#32, 0xFFE0003F#32⟩
  | .seleqzD _ _ _ => ⟨0x46200014#32, 0xFFE0003F#32⟩
  | .selnezD _ _ _ => ⟨0x46200017#32, 0xFFE0003F#32⟩
  | .cmpAfS _ _ _ => ⟨0x46800000#32, 0xFFE0003F#32⟩
  | .cmpAfD _ _ _ => ⟨0x46A00000#32, 0xFFE0003F#32⟩
  | .cmpUnS _ _ _ => ⟨0x46800001#32, 0xFFE0003F#32⟩
  | .cmpUnD _ _ _ => ⟨0x46A00001#32, 0xFFE0003F#32⟩
  | .cmpEqS _ _ _ => ⟨0x46800002#32, 0xFFE0003F#32⟩
  | .cmpEqD _ _ _ => ⟨0x46A00002#32, 0xFFE0003F#32⟩
  | .cmpUeqS _ _ _ => ⟨0x46800003#32, 0xFFE0003F#32⟩
  | .cmpUeqD _ _ _ => ⟨0x46A00003#32, 0xFFE0003F#32⟩
  | .cmpLtS _ _ _ => ⟨0x46800004#32, 0xFFE0003F#32⟩
  | .cmpLtD _ _ _ => ⟨0x46A00004#32, 0xFFE0003F#32⟩
  | .cmpUltS _ _ _ => ⟨0x46800005#32, 0xFFE0003F#32⟩
  | .cmpUltD _ _ _ => ⟨0x46A00005#32, 0xFFE0003F#32⟩
  | .cmpLeS _ _ _ => ⟨0x46800006#32, 0xFFE0003F#32⟩
  | .cmpLeD _ _ _ => ⟨0x46A00006#32, 0xFFE0003F#32⟩
  | .cmpUleS _ _ _ => ⟨0x46800007#32, 0xFFE0003F#32⟩
  | .cmpUleD _ _ _ => ⟨0x46A00007#32, 0xFFE0003F#32⟩
  | .cmpSafS _ _ _ => ⟨0x46800008#32, 0xFFE0003F#32⟩
  | .cmpSafD _ _ _ => ⟨0x46A00008#32, 0xFFE0003F#32⟩
  | .cmpSunS _ _ _ => ⟨0x46800009#32, 0xFFE0003F#32⟩
  | .cmpSunD _ _ _ => ⟨0x46A00009#32, 0xFFE0003F#32⟩
  | .cmpSeqS _ _ _ => ⟨0x4680000A#32, 0xFFE0003F#32⟩
  | .cmpSeqD _ _ _ => ⟨0x46A0000A#32, 0xFFE0003F#32⟩
  | .cmpSueqS _ _ _ => ⟨0x4680000B#32, 0xFFE0003F#32⟩
  | .cmpSueqD _ _ _ => ⟨0x46A0000B#32, 0xFFE0003F#32⟩
  | .cmpSltS _ _ _ => ⟨0x4680000C#32, 0xFFE0003F#32⟩
  | .cmpSltD _ _ _ => ⟨0x46A0000C#32, 0xFFE0003F#32⟩
  | .cmpSultS _ _ _ => ⟨0x4680000D#32, 0xFFE0003F#32⟩
  | .cmpSultD _ _ _ => ⟨0x46A0000D#32, 0xFFE0003F#32⟩
  | .cmpSleS _ _ _ => ⟨0x4680000E#32, 0xFFE0003F#32⟩
  | .cmpSleD _ _ _ => ⟨0x46A0000E#32, 0xFFE0003F#32⟩
  | .cmpSuleS _ _ _ => ⟨0x4680000F#32, 0xFFE0003F#32⟩
  | .cmpSuleD _ _ _ => ⟨0x46A0000F#32, 0xFFE0003F#32⟩
  | .cmpOrS _ _ _ => ⟨0x46800011#32, 0xFFE0003F#32⟩
  | .cmpOrD _ _ _ => ⟨0x46A00011#32, 0xFFE0003F#32⟩
  | .cmpUneS _ _ _ => ⟨0x46800012#32, 0xFFE0003F#32⟩
  | .cmpUneD _ _ _ => ⟨0x46A00012#32, 0xFFE0003F#32⟩
  | .cmpNeS _ _ _ => ⟨0x46800013#32, 0xFFE0003F#32⟩
  | .cmpNeD _ _ _ => ⟨0x46A00013#32, 0xFFE0003F#32⟩
  | .cmpSorS _ _ _ => ⟨0x46800019#32, 0xFFE0003F#32⟩
  | .cmpSorD _ _ _ => ⟨0x46A00019#32, 0xFFE0003F#32⟩
  | .cmpSuneS _ _ _ => ⟨0x4680001A#32, 0xFFE0003F#32⟩
  | .cmpSuneD _ _ _ => ⟨0x46A0001A#32, 0xFFE0003F#32⟩
  | .cmpSneS _ _ _ => ⟨0x4680001B#32, 0xFFE0003F#32⟩
  | .cmpSneD _ _ _ => ⟨0x46A0001B#32, 0xFFE0003F#32⟩
  | .cvtSD _ _ => ⟨0x46200020#32, 0xFFE0003F#32⟩
  | .cvtSW _ _ => ⟨0x46800020#32, 0xFFE0003F#32⟩
  | .cvtSL _ _ => ⟨0x46A00020#32, 0xFFE0003F#32⟩
  | .cvtDS _ _ => ⟨0x46000021#32, 0xFFE0003F#32⟩
  | .cvtDW _ _ => ⟨0x46800021#32, 0xFFE0003F#32⟩
  | .cvtDL _ _ => ⟨0x46A00021#32, 0xFFE0003F#32⟩
  | .cvtWS _ _ => ⟨0x46000024#32, 0xFFE0003F#32⟩
  | .cvtWD _ _ => ⟨0x46200024#32, 0xFFE0003F#32⟩
  | .cvtLS _ _ => ⟨0x46000025#32, 0xFFE0003F#32⟩
  | .cvtLD _ _ => ⟨0x46200025#32, 0xFFE0003F#32⟩
  | .roundWS _ _ => ⟨0x4600000C#32, 0xFFE0003F#32⟩
  | .roundWD _ _ => ⟨0x4620000C#32, 0xFFE0003F#32⟩
  | .roundLS _ _ => ⟨0x46000008#32, 0xFFE0003F#32⟩
  | .roundLD _ _ => ⟨0x46200008#32, 0xFFE0003F#32⟩
  | .truncWS _ _ => ⟨0x4600000D#32, 0xFFE0003F#32⟩
  | .truncWD _ _ => ⟨0x4620000D#32, 0xFFE0003F#32⟩
  | .truncLS _ _ => ⟨0x46000009#32, 0xFFE0003F#32⟩
  | .truncLD _ _ => ⟨0x46200009#32, 0xFFE0003F#32⟩
  | .ceilWS _ _ => ⟨0x4600000E#32, 0xFFE0003F#32⟩
  | .ceilWD _ _ => ⟨0x4620000E#32, 0xFFE0003F#32⟩
  | .ceilLS _ _ => ⟨0x4600000A#32, 0xFFE0003F#32⟩
  | .ceilLD _ _ => ⟨0x4620000A#32, 0xFFE0003F#32⟩
  | .floorWS _ _ => ⟨0x4600000F#32, 0xFFE0003F#32⟩
  | .floorWD _ _ => ⟨0x4620000F#32, 0xFFE0003F#32⟩
  | .floorLS _ _ => ⟨0x4600000B#32, 0xFFE0003F#32⟩
  | .floorLD _ _ => ⟨0x4620000B#32, 0xFFE0003F#32⟩
  | .bc1eqz _ _ => ⟨0x45200000#32, 0xFFE00000#32⟩
  | .bc1nez _ _ => ⟨0x45A00000#32, 0xFFE00000#32⟩
  | .tge _ _ _ => ⟨0x00000030#32, 0xFC00003F#32⟩
  | .tgeu _ _ _ => ⟨0x00000031#32, 0xFC00003F#32⟩
  | .tlt _ _ _ => ⟨0x00000032#32, 0xFC00003F#32⟩
  | .tltu _ _ _ => ⟨0x00000033#32, 0xFC00003F#32⟩
  | .teq _ _ _ => ⟨0x00000034#32, 0xFC00003F#32⟩
  | .tne _ _ _ => ⟨0x00000036#32, 0xFC00003F#32⟩
  | .brk _ => ⟨0x0000000D#32, 0xFC00003F#32⟩
  | .syscall _ => ⟨0x0000000C#32, 0xFC00003F#32⟩
  | .sdbbp _ => ⟨0x0000000E#32, 0xFC00003F#32⟩
  | .sigrie _ _ => ⟨0x04170000#32, 0xFC1F0000#32⟩
  | .sync _ => ⟨0x0000000F#32, 0xFC00003F#32⟩
  | .synci _ _ => ⟨0x041F0000#32, 0xFC1F0000#32⟩
  | .pref _ _ _ => ⟨0x7C000035#32, 0xFC00007F#32⟩
  | .prefe _ _ _ => ⟨0x7C000023#32, 0xFC00007F#32⟩
  | .cache _ _ _ => ⟨0x7C000025#32, 0xFC00007F#32⟩
  | .cachee _ _ _ => ⟨0x7C00001B#32, 0xFC00007F#32⟩
  | .ginvi _ _ => ⟨0x7C00003D#32, 0xFC0000FF#32⟩
  | .ginvt _ _ => ⟨0x7C0000BD#32, 0xFC0000FF#32⟩
  | .rdhwr _ _ => ⟨0x7C00003B#32, 0xFC00003F#32⟩
  | .eret => ⟨0x42000018#32, 0xFE00007F#32⟩
  | .eretnc => ⟨0x42000058#32, 0xFE00007F#32⟩
  | .deret => ⟨0x4200001F#32, 0xFE00003F#32⟩
  | .di _ => ⟨0x41606000#32, 0xFFE0FFFF#32⟩
  | .ei _ => ⟨0x41606020#32, 0xFFE0FFFF#32⟩
  | .dvp _ => ⟨0x41600024#32, 0xFFE0FFFF#32⟩
  | .evp _ => ⟨0x41600004#32, 0xFFE0FFFF#32⟩
  | .wait => ⟨0x42000020#32, 0xFE00003F#32⟩
  | .tlbr => ⟨0x42000001#32, 0xFE00003F#32⟩
  | .tlbwi => ⟨0x42000002#32, 0xFE00003F#32⟩
  | .tlbinv => ⟨0x42000003#32, 0xFE00003F#32⟩
  | .tlbinvf => ⟨0x42000004#32, 0xFE00003F#32⟩
  | .tlbwr => ⟨0x42000006#32, 0xFE00003F#32⟩
  | .tlbp => ⟨0x42000008#32, 0xFE00003F#32⟩
  | .lb _ _ _ => ⟨0x80000000#32, 0xFC000000#32⟩
  | .lbu _ _ _ => ⟨0x90000000#32, 0xFC000000#32⟩
  | .lh _ _ _ => ⟨0x84000000#32, 0xFC000000#32⟩
  | .lhu _ _ _ => ⟨0x94000000#32, 0xFC000000#32⟩
  | .lw _ _ _ => ⟨0x8C000000#32, 0xFC000000#32⟩
  | .sb _ _ _ => ⟨0xA0000000#32, 0xFC000000#32⟩
  | .sh _ _ _ => ⟨0xA4000000#32, 0xFC000000#32⟩
  | .sw _ _ _ => ⟨0xAC000000#32, 0xFC000000#32⟩
  | .lwpc _ _ => ⟨0xEC080000#32, 0xFC180000#32⟩
  | .lbe _ _ _ => ⟨0x7C00002C#32, 0xFC00007F#32⟩
  | .lbue _ _ _ => ⟨0x7C000028#32, 0xFC00007F#32⟩
  | .lhe _ _ _ => ⟨0x7C00002D#32, 0xFC00007F#32⟩
  | .lhue _ _ _ => ⟨0x7C000029#32, 0xFC00007F#32⟩
  | .lwe _ _ _ => ⟨0x7C00002F#32, 0xFC00007F#32⟩
  | .sbe _ _ _ => ⟨0x7C00001C#32, 0xFC00007F#32⟩
  | .she _ _ _ => ⟨0x7C00001D#32, 0xFC00007F#32⟩
  | .swe _ _ _ => ⟨0x7C00001F#32, 0xFC00007F#32⟩
  | .ll _ _ _ => ⟨0x7C000036#32, 0xFC00007F#32⟩
  | .sc _ _ _ => ⟨0x7C000026#32, 0xFC00007F#32⟩
  | .llwp _ _ _ => ⟨0x7C000076#32, 0xFC00007F#32⟩
  | .scwp _ _ _ => ⟨0x7C000066#32, 0xFC00007F#32⟩
  | .lle _ _ _ => ⟨0x7C00002E#32, 0xFC00007F#32⟩
  | .sce _ _ _ => ⟨0x7C00001E#32, 0xFC00007F#32⟩
  | .llwpe _ _ _ => ⟨0x7C00006E#32, 0xFC00007F#32⟩
  | .scwpe _ _ _ => ⟨0x7C00005E#32, 0xFC00007F#32⟩
  | .lwc1 _ _ _ => ⟨0xC4000000#32, 0xFC000000#32⟩
  | .swc1 _ _ _ => ⟨0xE4000000#32, 0xFC000000#32⟩
  | .ldc1 _ _ _ => ⟨0xD4000000#32, 0xFC000000#32⟩
  | .sdc1 _ _ _ => ⟨0xF4000000#32, 0xFC000000#32⟩
  | .mfc1 _ _ => ⟨0x44000000#32, 0xFFE00000#32⟩
  | .mtc1 _ _ => ⟨0x44800000#32, 0xFFE00000#32⟩
  | .mfhc1 _ _ => ⟨0x44600000#32, 0xFFE00000#32⟩
  | .mthc1 _ _ => ⟨0x44E00000#32, 0xFFE00000#32⟩
  | .cfc1 _ _ => ⟨0x44400000#32, 0xFFE00000#32⟩
  | .ctc1 _ _ => ⟨0x44C00000#32, 0xFFE00000#32⟩
  | .mfc2 _ _ => ⟨0x48000000#32, 0xFFE00000#32⟩
  | .mtc2 _ _ => ⟨0x48800000#32, 0xFFE00000#32⟩
  | .mfhc2 _ _ => ⟨0x48600000#32, 0xFFE00000#32⟩
  | .mthc2 _ _ => ⟨0x48E00000#32, 0xFFE00000#32⟩
  | .cfc2 _ _ => ⟨0x48400000#32, 0xFFE00000#32⟩
  | .ctc2 _ _ => ⟨0x48C00000#32, 0xFFE00000#32⟩
  | .lwc2 _ _ _ => ⟨0x49400000#32, 0xFFE00000#32⟩
  | .swc2 _ _ _ => ⟨0x49600000#32, 0xFFE00000#32⟩
  | .ldc2 _ _ _ => ⟨0x49C00000#32, 0xFFE00000#32⟩
  | .sdc2 _ _ _ => ⟨0x49E00000#32, 0xFFE00000#32⟩
  | .bc2eqz _ _ => ⟨0x49200000#32, 0xFFE00000#32⟩
  | .bc2nez _ _ => ⟨0x49A00000#32, 0xFFE00000#32⟩
  | .rdpgpr _ _ => ⟨0x41400000#32, 0xFFE00000#32⟩
  | .wrpgpr _ _ => ⟨0x41C00000#32, 0xFFE00000#32⟩

end

end Sys2Proof
end

