-- ==== Sys2Proof/Config.lean ====
section
/-! DEFINITION. What the spec leaves to the implementation or the host: the parameters of 00_scope.md R6 with their defaults, the
reset inputs that have no default, and the one source of free values. -/

namespace Sys2Proof

/-- The implementation parameters of R6 that act after reset. They are plain data, held in `State.params`, and no step changes
them, so a statement about every state holds for every value of them. DESIGN CHOICE, safe: notes/assumptions/2.md. -/
structure Params where
  /-- MEM_BYTES: addresses 0 to MEM_BYTES - 1 exist (R6, R57; D12). -/
  memBytes : Nat
  /-- ADD_OVERFLOW_TRAPS: whether ADD raises IntegerOverflow as SUB does (R6, R101, R570; D19). -/
  addOverflowTraps : Bool
  /-- QNAN_S: the binary32 NaN that an invalid operation gives (R6, R252; D21, U5). -/
  qnanS : Word
  /-- QNAN_D: the binary64 NaN that an invalid operation gives (R6, R252; D21, U5). -/
  qnanD : DWord
  /-- DECODE_FALLBACK: what the decoder returns for a word of a collision group that satisfies no rule; a word not listed has no
  instruction (R6, R86; D4, U1). -/
  decodeFallback : List (Word × Instr)
deriving DecidableEq, Repr

/-- The default values of R6. -/
def Params.default : Params where
  memBytes := 4294967296
  addOverflowTraps := false
  qnanS := 0x7FC00000#32
  qnanD := 0x7FF8000000000000#64
  decodeFallback := []

/-- What R6 and R252 require of the parameters: at most 2^32 bytes of memory, and quiet NaNs. -/
def Params.wf (p : Params) : Bool :=
  decide (p.memBytes ≤ 4294967296) && (p.qnanS &&& 0x7FC00000#32 == 0x7FC00000#32)
    && (p.qnanD &&& 0x7FF8000000000000#64 == 0x7FF8000000000000#64)

/-- RESET_PC, supplied by the host; the spec gives no default (R590). DESIGN CHOICE, unsafe: notes/assumptions/3.md. -/
def Config.resetPc : Word := 0x00000000#32

/-- RESET_SP, supplied by the host; the spec gives no default (R590). DESIGN CHOICE, unsafe: notes/assumptions/3.md. -/
def Config.resetSp : Word := 0x00000000#32

/-- COP_ENABLE, supplied by the host; the spec gives no default (R590) and asks for bit 1 set where a COP2 word can be fetched
(R603). DESIGN CHOICE, unsafe: notes/assumptions/4.md. -/
def Config.copEnable : BitVec 2 := 0b10#2

/-- What an address that the memory does not list reads as; MEM_IMAGE is supplied by the host and has no default (R50, R590).
DESIGN CHOICE, unsafe: notes/assumptions/5.md. -/
def Config.unlistedByte : Byte := 0x00#8

/-- The free values: the n-th value that the spec calls `any value` (U3, U5). It has no body, so nothing can be proved of it. The
argument is the counter `State.draws`. DESIGN CHOICE, safe: notes/assumptions/6.md. -/
opaque Config.freeValue : Nat → DWord

end Sys2Proof
end

