-- ==== Sys2Proof/Machine/State.lean ====
section
/-! DEFINITION. The state of the machine (10_state.md R20 to R33), the ways a step can stop, and the state after reset
(70_reset_and_hazards.md R590, R591). -/

namespace Sys2Proof.Machine

/-- A file of 32 registers of 32 bits (R20, R25, R27 to R30, R43). -/
abbrev RegFile := Vector Word 32

/-- The memory: the bytes that differ from `Config.unlistedByte`, by address (R32, R50). -/
abbrev Memory := List Host.Cell

/-- The canonical form of the memory: addresses strictly rising, and no entry that equals what an unlisted address reads as. -/
def Memory.wf : Memory → Bool
  | [] => true
  | [(_, b)] => b != Config.unlistedByte
  | (a, b) :: (a', b') :: rest => b != Config.unlistedByte && decide (a < a') && Memory.wf ((a', b') :: rest)

/-- The nine fatal conditions (60_exceptions.md R561): values returned to the host with the state, without code or payload. -/
inductive Condition where
  /-- The step itself: the word does not decode (R562). -/
  | unknownOpcode
  /-- BREAK (R563). -/
  | breakpoint
  /-- SYSCALL (R564). -/
  | syscall
  /-- SDBBP (R565). -/
  | debugBreakpoint
  /-- SIGRIE (R566). -/
  | reservedInstruction
  /-- TGE, TGEU, TLT, TLTU, TEQ, TNE (R567). -/
  | trap
  /-- JALR with a target that is not 4-byte aligned (R568). -/
  | addressError
  /-- A signalling comparison with a NaN operand (R569). -/
  | invalidFloatingPointOperation
  /-- SUB, and ADD where ADD_OVERFLOW_TRAPS holds (R570). -/
  | integerOverflow
deriving DecidableEq, Repr

/-- What remains of BAL, JAL, JALR or BLTZAL once its link is written: to run the delay slot and then, if taken, to write pc
(43_branch_jump.md R193). -/
inductive DelaySlot where
  /-- No delay slot is due. -/
  | idle
  /-- The slot is due and the transfer is not taken (BLTZAL only). -/
  | fallThrough
  /-- The slot is due and pc goes to the target after it. -/
  | transfer (target : Word)
deriving DecidableEq, Repr

/-- The machine's state: R20 to R33, and four fields of the model's own at the end. -/
structure State where
  /-- General registers; number 0 is an ordinary register (R20, R21). -/
  x : RegFile
  /-- Program counter (R23). -/
  pc : Word
  /-- Upper half of the multiply/divide accumulator (R24). -/
  hi : Word
  /-- Lower half of the multiply/divide accumulator (R24). -/
  lo : Word
  /-- FPU registers (R25). -/
  f : RegFile
  /-- FPU control registers, plain storage (R27). -/
  fcr : RegFile
  /-- COP2 data registers (R28). -/
  c2d : RegFile
  /-- COP2 control registers, plain storage (R29). -/
  c2c : RegFile
  /-- Shadow general registers (R30). -/
  sx : RegFile
  /-- Coprocessor enable bits; constant after reset (R31). -/
  copBit : BitVec 2
  /-- Memory (R32). -/
  mem : Memory
  /-- The model's own: the implementation parameters of R6, constant (notes/assumptions/2.md). -/
  params : Params
  /-- The model's own: the outcome of the last step, none for Ok and the condition for Fatal (R560; notes/assumptions/1.md). -/
  raised : Option Condition
  /-- The model's own: the delay slot that the running step still owes (R192, R193); idle between steps (R33;
  notes/assumptions/15.md). -/
  slot : DelaySlot
  /-- The model's own: how many free values have been drawn (notes/assumptions/6.md). -/
  draws : Nat
deriving DecidableEq, Repr

/-- Why the machine stops with a fault: never. The outcomes of a step are Ok and Fatal, which are next states, and Refuse (R11, R560);
a fault would be a fourth (D12 of 92_eei_decisions.md). -/
inductive Fault
deriving DecidableEq, Repr

/-- Why the model refuses a step. -/
inductive Refusal where
  /-- Raised by an instruction that has no meaning in the model yet. Safe: nothing is claimed of it. -/
  | notModelled (mnemonic : String)
  /-- Raised by a fetch, a load or a store one of whose bytes lies at or above MEM_BYTES (U6, R57). The spec refuses it. Safe
  (notes/assumptions/7.md). -/
  | outsideMemory
  /-- Raised by a 64-bit view of an odd register (U4, R26, R250). The spec refuses it. Safe (notes/assumptions/12.md). -/
  | oddPair
  /-- Raised by EXT with lsb + msbd > 31 and INS with lsb > msb (U9, R128, R129). The spec refuses it. Safe
  (notes/assumptions/13.md). -/
  | bitField
  /-- Raised by BAL, JAL, JALR or BLTZAL in the delay slot of one of them (U2, R195). The spec refuses it. Safe
  (notes/assumptions/14.md). -/
  | nestedDelaySlot
deriving DecidableEq, Repr

/-- What an instruction or a step answers. -/
abbrev Result := Host.Outcome State Fault Refusal

/-- The state that the constructor `reset(memory, initialPc, initialSp, copEnableBits)` gives (R590, R591): pc, x[29], copBit and
memory as supplied, every other register 0. -/
def State.resetWith (memory : Memory) (initialPc initialSp : Word) (copEnableBits : BitVec 2) (params : Params) : State where
  x := (Vector.replicate 32 0#32).set 29 initialSp
  pc := initialPc
  hi := 0#32
  lo := 0#32
  f := Vector.replicate 32 0#32
  fcr := Vector.replicate 32 0#32
  c2d := Vector.replicate 32 0#32
  c2c := Vector.replicate 32 0#32
  sx := Vector.replicate 32 0#32
  copBit := copEnableBits
  mem := memory
  params := params
  raised := none
  slot := .idle
  draws := 0

/-- The machine right after reset, with an empty memory image and the reset inputs of `Config` (R590, R591). -/
def State.reset : State :=
  State.resetWith [] Config.resetPc Config.resetSp Config.copEnable Params.default

end Sys2Proof.Machine
end

