-- ==== Sys2Proof/Machine/Ops.lean ====
section
/-! DEFINITION. The named operations over registers and memory (00_scope.md R8, R10; 20_memory.md), raising a condition
(60_exceptions.md R560) and drawing a free value. Every meaning is written over them. -/

namespace Sys2Proof.Machine

/-! ### Register files -/

/-- Element `r` of a register file (R8). -/
def readReg (g : RegFile) (r : Reg) : Word := g[r.toNat]'r.isLt

/-- A register file with element `r` set to `v` (R8); element 0 is an ordinary one (R21). -/
def writeReg (g : RegFile) (r : Reg) (v : Word) : RegFile := g.set r.toNat v r.isLt

/-- The 64-bit view of the pair (n, n+1) of a file: register n is the low half (R26, R28). -/
def readPair (g : RegFile) (n : Reg) : DWord := readReg g (n + 1#5) ++ readReg g n

/-- Writing the 64-bit view of the pair (n, n+1) (R26, R28). -/
def writePair (g : RegFile) (n : Reg) (v : DWord) : RegFile :=
  writeReg (writeReg g n (v.extractLsb' 0 32)) (n + 1#5) (v.extractLsb' 32 32)

/-- Whether a register number may name a 64-bit view: only an even one has a defined result (R26, R250, U4). -/
def evenReg (n : Reg) : Bool := !n.getLsbD 0

/-- x[r] (R20). -/
def State.getX (s : State) (r : Reg) : Word := readReg s.x r
/-- f[r] (R25). -/
def State.getF (s : State) (r : Reg) : Word := readReg s.f r
/-- D(n), meant for even n (R26). -/
def State.getD (s : State) (n : Reg) : DWord := readPair s.f n
/-- fcr[r] (R27). -/
def State.getFcr (s : State) (r : Reg) : Word := readReg s.fcr r
/-- c2d[r] (R28). -/
def State.getC2d (s : State) (r : Reg) : Word := readReg s.c2d r
/-- c2c[r] (R29). -/
def State.getC2c (s : State) (r : Reg) : Word := readReg s.c2c r
/-- sx[r] (R30). -/
def State.getSx (s : State) (r : Reg) : Word := readReg s.sx r

/-- x[r] <- v (R20, R21). -/
def State.setX (s : State) (r : Reg) (v : Word) : State := { s with x := writeReg s.x r v }
/-- pc <- t (R23). -/
def State.setPc (s : State) (t : Word) : State := { s with pc := t }
/-- hi <- v (R24). -/
def State.setHi (s : State) (v : Word) : State := { s with hi := v }
/-- lo <- v (R24). -/
def State.setLo (s : State) (v : Word) : State := { s with lo := v }
/-- hi || lo <- v (R165). -/
def State.setAcc (s : State) (v : DWord) : State :=
  (s.setHi (v.extractLsb' 32 32)).setLo (v.extractLsb' 0 32)
/-- f[r] <- v (R25). -/
def State.setF (s : State) (r : Reg) (v : Word) : State := { s with f := writeReg s.f r v }
/-- D(n) <- v, meant for even n (R26). -/
def State.setD (s : State) (n : Reg) (v : DWord) : State := { s with f := writePair s.f n v }
/-- fcr[r] <- v (R27). -/
def State.setFcr (s : State) (r : Reg) (v : Word) : State := { s with fcr := writeReg s.fcr r v }
/-- c2d[r] <- v (R28). -/
def State.setC2d (s : State) (r : Reg) (v : Word) : State := { s with c2d := writeReg s.c2d r v }
/-- The pair (n, n+1) of c2d <- v, meant for even n (R28). -/
def State.setC2dPair (s : State) (n : Reg) (v : DWord) : State := { s with c2d := writePair s.c2d n v }
/-- c2c[r] <- v (R29). -/
def State.setC2c (s : State) (r : Reg) (v : Word) : State := { s with c2c := writeReg s.c2c r v }
/-- sx[r] <- v (R30). -/
def State.setSx (s : State) (r : Reg) (v : Word) : State := { s with sx := writeReg s.sx r v }
/-- The memory replaced. -/
def State.setMem (s : State) (m : Memory) : State := { s with mem := m }
/-- The delay slot that the running step owes (R193). -/
def State.setSlot (s : State) (d : DelaySlot) : State := { s with slot := d }
/-- The outcome that the step reports so far (R560). -/
def State.setRaised (s : State) (c : Option Condition) : State := { s with raised := c }

/-- hi || lo (R165). -/
def State.getAcc (s : State) : DWord := s.hi ++ s.lo

/-! ### Taking an exception

The machine's whole mechanism: the condition is handed to the host with the state. No register saves anything, no mode or status
changes, and pc keeps the value addr + 4 that the step gave it (R560, R561, R573); a further step goes on from there (R574). There is
no return from an exception: ERET, ERETNC and DERET do nothing (R444 to R446). -/

/-- `raise c` (R10, R560, R573). -/
def State.raise (s : State) (c : Condition) : State := s.setRaised (some c)

/-! ### Free values -/

/-- The next free value, 32 bits of it (U3, U5). -/
def State.freeWord (s : State) : Word := (Config.freeValue s.draws).setWidth 32
/-- The next free value (U5). -/
def State.freeDWord (s : State) : DWord := Config.freeValue s.draws
/-- The state after one free value has been drawn. -/
def State.draw (s : State) : State := { s with draws := s.draws + 1 }

/-! ### Memory -/

/-- The byte at an address (R50, R52). -/
def readByte : Memory → Nat → Byte
  | [], _ => Config.unlistedByte
  | (k, b) :: rest, a => if k = a then b else readByte rest a

/-- The memory without an entry for an address. -/
def dropByte : Memory → Nat → Memory
  | [], _ => []
  | (k, b) :: rest, a => if k = a then dropByte rest a else (k, b) :: dropByte rest a

/-- The memory with an entry added before the first higher address. -/
def insertByte : Memory → Nat → Byte → Memory
  | [], a, v => [(a, v)]
  | (k, b) :: rest, a, v => if a < k then (a, v) :: (k, b) :: rest else (k, b) :: insertByte rest a v

/-- Storing one byte (R53); a byte that equals what an unlisted address reads as is not listed. -/
def writeByte (m : Memory) (a : Nat) (v : Byte) : Memory :=
  if v = Config.unlistedByte then dropByte m a else insertByte (dropByte m a) a v

/-- MemRead(a, 1) (R52). -/
def load8 (m : Memory) (a : Word) : Byte := readByte m a.toNat
/-- MemRead(a, 2): the lower address holds the more significant byte, and addresses wrap (R51, R52, R54). -/
def load16 (m : Memory) (a : Word) : Half := load8 m a ++ load8 m (a + 1#32)
/-- MemRead(a, 4) (R51, R52, R54). -/
def load32 (m : Memory) (a : Word) : Word := load16 m a ++ load16 m (a + 2#32)
/-- MemRead(a, 8) (R51, R52, R54). -/
def load64 (m : Memory) (a : Word) : DWord := load32 m a ++ load32 m (a + 4#32)

/-- MemWrite(a, 1, v) (R53). -/
def store8 (m : Memory) (a : Word) (v : Byte) : Memory := writeByte m a.toNat v
/-- MemWrite(a, 2, v): the more significant byte goes to the lower address, and addresses wrap (R51, R53, R54). -/
def store16 (m : Memory) (a : Word) (v : Half) : Memory :=
  store8 (store8 m a (v.extractLsb' 8 8)) (a + 1#32) (v.extractLsb' 0 8)
/-- MemWrite(a, 4, v) (R51, R53, R54). -/
def store32 (m : Memory) (a : Word) (v : Word) : Memory :=
  store16 (store16 m a (v.extractLsb' 16 16)) (a + 2#32) (v.extractLsb' 0 16)
/-- MemWrite(a, 8, v) (R51, R53, R54). -/
def store64 (m : Memory) (a : Word) (v : DWord) : Memory :=
  store32 (store32 m a (v.extractLsb' 32 32)) (a + 4#32) (v.extractLsb' 0 32)

/-- Whether the n bytes of an access at `a` all lie below MEM_BYTES (R51, R57). -/
def State.accessible (s : State) (a : Word) (n : Nat) : Bool :=
  (List.range n).all fun i => decide ((a + BitVec.ofNat 32 i).toNat < s.params.memBytes)

/-- A byte load and what is done with the value; refused where the access is outside the memory (R57, R483). -/
def loadByte (a : Word) (s : State) (k : Byte → State) : Result :=
  if s.accessible a 1 then .next (k (load8 s.mem a)) else .refused .outsideMemory
/-- A halfword load (R57, R483). -/
def loadHalf (a : Word) (s : State) (k : Half → State) : Result :=
  if s.accessible a 2 then .next (k (load16 s.mem a)) else .refused .outsideMemory
/-- A word load (R57, R483). -/
def loadWord (a : Word) (s : State) (k : Word → State) : Result :=
  if s.accessible a 4 then .next (k (load32 s.mem a)) else .refused .outsideMemory
/-- A doubleword load (R57, R483). -/
def loadDouble (a : Word) (s : State) (k : DWord → State) : Result :=
  if s.accessible a 8 then .next (k (load64 s.mem a)) else .refused .outsideMemory

/-- A byte store: whole, or refused where the access is outside the memory (R57, R483). -/
def storeByte (a : Word) (v : Byte) (s : State) : Result :=
  if s.accessible a 1 then .next (s.setMem (store8 s.mem a v)) else .refused .outsideMemory
/-- A halfword store (R57, R483). -/
def storeHalf (a : Word) (v : Half) (s : State) : Result :=
  if s.accessible a 2 then .next (s.setMem (store16 s.mem a v)) else .refused .outsideMemory
/-- A word store (R57, R483). -/
def storeWord (a : Word) (v : Word) (s : State) : Result :=
  if s.accessible a 4 then .next (s.setMem (store32 s.mem a v)) else .refused .outsideMemory
/-- A doubleword store (R57, R483). -/
def storeDouble (a : Word) (v : DWord) (s : State) : Result :=
  if s.accessible a 8 then .next (s.setMem (store64 s.mem a v)) else .refused .outsideMemory

/-- A word store and then x[rt] <- 1 (R485). -/
def storeWordThenOne (a : Word) (v : Word) (rt : Reg) (s : State) : Result :=
  if s.accessible a 4 then .next ((s.setMem (store32 s.mem a v)).setX rt 1#32) else .refused .outsideMemory
/-- A doubleword store and then x[rt] <- 1 (R485). -/
def storeDoubleThenOne (a : Word) (v : DWord) (rt : Reg) (s : State) : Result :=
  if s.accessible a 8 then .next ((s.setMem (store64 s.mem a v)).setX rt 1#32) else .refused .outsideMemory

/-- Goes on only if every register number that names a 64-bit view is even (R26, R250, U4). -/
def onPairs (even : Bool) (k : Result) : Result := if even then k else .refused .oddPair

end Sys2Proof.Machine
end

