-- ==== Sys2Proof/Machine/Flags.lean ====
section
/-! DEFINITION. The machine has no flag register (10_state.md R33). This file holds the conditions its instructions compute instead:
signed overflow, the comparisons of branches and traps, and the predicate of a floating-point comparison. -/

namespace Sys2Proof.Machine

/-- Whether an exact integer fits a signed 32-bit register (R103, R226). -/
def fitsSigned32 (v : Int) : Bool := decide (-2147483648 ≤ v) && decide (v ≤ 2147483647)

/-- s(a) < s(b) (R9). -/
def ltSigned (a b : Word) : Bool := decide (a.toInt < b.toInt)
/-- u(a) < u(b) (R9). -/
def ltUnsigned (a b : Word) : Bool := decide (a.toNat < b.toNat)
/-- s(a) < 0. -/
def isNegative (a : Word) : Bool := decide (a.toInt < 0)
/-- s(a) <= 0. -/
def isNotPositive (a : Word) : Bool := decide (a.toInt ≤ 0)

/-- The signed sum does not fit 32 bits (R226, R227). -/
def sumOverflows (a b : Word) : Bool := !fitsSigned32 (a.toInt + b.toInt)
/-- The signed difference does not fit 32 bits (R103). -/
def differenceOverflows (a b : Word) : Bool := !fitsSigned32 (a.toInt - b.toInt)

/-- The truth value of a set-on-less-than as a register value (R113 to R116). -/
def truthWord (c : Bool) : Word := if c then 1#32 else 0#32

/-- How many of the n low bits of `v`, counted down from bit n - 1, equal `b` before the first that does not (R121, R122). -/
def leadingRun (b : Bool) (v : Word) : Nat → Nat
  | 0 => 0
  | n + 1 => if v.getLsbD n = b then leadingRun b v n + 1 else 0

/-- The predicate of CMP.cond.fmt: cond[0], cond[1], cond[2] select UN, EQ, LT and cond[4] negates (R320). -/
def fpPredicate (cond : BitVec 5) (un eq lt : Bool) : Bool :=
  let p := (cond.getLsbD 0 && un) || (cond.getLsbD 1 && eq) || (cond.getLsbD 2 && lt)
  if cond.getLsbD 4 then !p else p

/-- Whether CMP.cond.fmt is signalling: cond[3] (R320, R321). -/
def fpSignalling (cond : BitVec 5) : Bool := cond.getLsbD 3

end Sys2Proof.Machine
end

