-- ==== Sys2Proof/Machine/Float.lean ====
section
/-! DEFINITION. Binary floating point (IEEE 754-2008 binary32 and binary64) as 44_fpu_arithmetic.md R251 to R253, 45_fpu_compare.md
R320 and 46_fpu_convert_branch.md R380 use it: values are exact integers scaled by a power of two, and there is one rounding, to
nearest with ties to even. A number's bit pattern is its value as a natural number. -/

namespace Sys2Proof.Machine

/-- A binary interchange format. -/
structure Format where
  /-- Width of the exponent field. -/
  expBits : Nat
  /-- Width of the fraction field. -/
  fracBits : Nat
deriving DecidableEq, Repr

/-- Format S (R250). -/
def binary32 : Format := ⟨8, 23⟩
/-- Format D (R250). -/
def binary64 : Format := ⟨11, 52⟩

/-- The result of an arithmetic operation (R251, R252). -/
inductive FpResult where
  /-- A number or infinity, by its bit pattern. -/
  | bits (pattern : Nat)
  /-- The quiet NaN of an invalid operation: QNAN_S or QNAN_D (R252, U5). -/
  | invalid
  /-- Some quiet NaN, its sign and payload open: the result of an operation on a NaN (R252, U5). -/
  | anyNaN
deriving DecidableEq, Repr

/-- A bit pattern read as a value: the finite ones are (-1)^neg * m * 2^e. -/
inductive FpValue where
  | nan
  | inf (neg : Bool)
  | finite (neg : Bool) (m : Nat) (e : Int)
deriving DecidableEq, Repr

/-! ### Patterns -/

/-- The pattern of +infinity: exponent field all ones, fraction 0. -/
def Format.infBits (fmt : Format) : Nat := (2 ^ fmt.expBits - 1) * 2 ^ fmt.fracBits
/-- The value of the sign bit's place. -/
def Format.signValue (fmt : Format) : Nat := 2 ^ (fmt.expBits + fmt.fracBits)
/-- The exponent of the smallest subnormal number. -/
def Format.minExp (fmt : Format) : Int := 2 - (2 : Int) ^ (fmt.expBits - 1) - fmt.fracBits
/-- The pattern of 1. -/
def Format.oneBits (fmt : Format) : Nat := (2 ^ (fmt.expBits - 1) - 1) * 2 ^ fmt.fracBits

/-- The sign bit. -/
def fpNeg (fmt : Format) (p : Nat) : Bool := p / fmt.signValue % 2 == 1
/-- The pattern without its sign bit. -/
def fpMagnitude (fmt : Format) (p : Nat) : Nat := p % fmt.signValue
/-- The fraction field. -/
def fpFraction (fmt : Format) (p : Nat) : Nat := p % 2 ^ fmt.fracBits
/-- The exponent field. -/
def fpExponent (fmt : Format) (p : Nat) : Nat := fpMagnitude fmt p / 2 ^ fmt.fracBits
/-- The pattern with a given sign. -/
def fpSigned (fmt : Format) (neg : Bool) (magnitude : Nat) : Nat :=
  if neg then fmt.signValue + magnitude else magnitude

/-- A NaN, quiet or signalling: exponent all ones, fraction not 0 (R252). -/
def fpIsNaN (fmt : Format) (p : Nat) : Bool := decide (fmt.infBits < fpMagnitude fmt p)
/-- A quiet NaN: the most significant fraction bit is 1 (R281). -/
def fpIsQuiet (fmt : Format) (p : Nat) : Bool :=
  fpIsNaN fmt p && decide (2 ^ (fmt.fracBits - 1) ≤ fpFraction fmt p)

/-- The value of a pattern. -/
def unpack (fmt : Format) (p : Nat) : FpValue :=
  if fmt.infBits < fpMagnitude fmt p then .nan
  else if fpMagnitude fmt p = fmt.infBits then .inf (fpNeg fmt p)
  else if fpExponent fmt p = 0 then .finite (fpNeg fmt p) (fpFraction fmt p) fmt.minExp
  else .finite (fpNeg fmt p) (2 ^ fmt.fracBits + fpFraction fmt p) (fmt.minExp + fpExponent fmt p - 1)

/-- A signed zero. -/
def fpZero (fmt : Format) (neg : Bool) : FpResult := .bits (fpSigned fmt neg 0)
/-- A signed infinity. -/
def fpInf (fmt : Format) (neg : Bool) : FpResult := .bits (fpSigned fmt neg fmt.infBits)

/-! ### Rounding -/

/-- Directions in which a value is rounded to an integer (R380). -/
inductive RoundDir where
  | nearestEven
  | towardZero
  | up
  | down
deriving DecidableEq, Repr

/-- Whether the magnitude q + r / 2^k (and more, below the last bit of r, if `sticky`) rounds to q + 1, for 0 <= r < 2^k. -/
def roundsUp (dir : RoundDir) (neg : Bool) (q r k : Nat) (sticky : Bool) : Bool :=
  match dir with
  | .nearestEven => decide (2 ^ k < 2 * r) || (decide (2 * r = 2 ^ k) && (sticky || q % 2 == 1))
  | .towardZero => false
  | .up => !neg && (decide (r ≠ 0) || sticky)
  | .down => neg && (decide (r ≠ 0) || sticky)

/-- m * 2^e rounded to an integer multiple of 2^u: the multiple (R251, R380). -/
def roundAt (dir : RoundDir) (neg : Bool) (m : Nat) (e u : Int) (sticky : Bool) : Nat :=
  if u ≤ e then m <<< (e - u).toNat
  else
    let k := (u - e).toNat
    let q := m >>> k
    q + if roundsUp dir neg q (m % 2 ^ k) k sticky then 1 else 0

/-- The exponent of the last place of a result near m * 2^e: the format's precision, but not below the subnormal numbers (R251). -/
def ulpExp (fmt : Format) (m : Nat) (e : Int) : Int :=
  max (e + Nat.log2 m - fmt.fracBits) fmt.minExp

/-- round_binary32 and round_binary64 (R9, R251): (-1)^neg times m * 2^e, or a value between m and m + 1 times 2^e where `sticky`
holds, to nearest with ties to even; too large a magnitude gives infinity. A significand and its last-place exponent u encode as
(u - minExp) * 2^fracBits + significand, into the exponent field as well when the rounding carries. -/
def roundNearest (fmt : Format) (neg : Bool) (m : Nat) (e : Int) (sticky : Bool) : FpResult :=
  if m = 0 then fpZero fmt neg
  else
    let u := ulpExp fmt m e
    let magnitude := (u - fmt.minExp).toNat * 2 ^ fmt.fracBits + roundAt .nearestEven neg m e u sticky
    .bits (fpSigned fmt neg (min magnitude fmt.infBits))

/-! ### Arithmetic -/

/-- An integer from a sign and a magnitude. -/
def signedInt (neg : Bool) (m : Nat) : Int := if neg then -(m : Int) else m

/-- The exact sum of two finite values, rounded; an exact zero is -0 only if both are -0 or negative (R251). -/
def addFinite (fmt : Format) (na : Bool) (ma : Nat) (ea : Int) (nb : Bool) (mb : Nat) (eb : Int) : FpResult :=
  let e := min ea eb
  let v := signedInt na (ma <<< (ea - e).toNat) + signedInt nb (mb <<< (eb - e).toNat)
  if v = 0 then fpZero fmt (na && nb) else roundNearest fmt (decide (v < 0)) v.natAbs e false

/-- The sum of two values (R251, R252). -/
def addValues (fmt : Format) (a b : FpValue) : FpResult :=
  match a, b with
  | .nan, _ => .anyNaN
  | _, .nan => .anyNaN
  | .inf na, .inf nb => if na = nb then fpInf fmt na else .invalid
  | .inf na, .finite _ _ _ => fpInf fmt na
  | .finite _ _ _, .inf nb => fpInf fmt nb
  | .finite na ma ea, .finite nb mb eb => addFinite fmt na ma ea nb mb eb

/-- A value with its sign changed. -/
def FpValue.negate (v : FpValue) : FpValue :=
  match v with
  | .nan => .nan
  | .inf n => .inf (!n)
  | .finite n m e => .finite (!n) m e

/-- ADD.fmt (R255, R256). -/
def fpAdd (fmt : Format) (a b : Nat) : FpResult := addValues fmt (unpack fmt a) (unpack fmt b)
/-- SUB.fmt (R257, R258). -/
def fpSub (fmt : Format) (a b : Nat) : FpResult := addValues fmt (unpack fmt a) (unpack fmt b).negate

/-- MUL.fmt (R259, R260). -/
def fpMul (fmt : Format) (a b : Nat) : FpResult :=
  match unpack fmt a, unpack fmt b with
  | .nan, _ => .anyNaN
  | _, .nan => .anyNaN
  | .inf na, .inf nb => fpInf fmt (na ^^ nb)
  | .inf na, .finite nb m _ => if m = 0 then .invalid else fpInf fmt (na ^^ nb)
  | .finite na m _, .inf nb => if m = 0 then .invalid else fpInf fmt (na ^^ nb)
  | .finite na ma ea, .finite nb mb eb => roundNearest fmt (na ^^ nb) (ma * mb) (ea + eb) false

/-- The quotient of two finite values, the divisor not 0: at least three bits beyond the precision, and whether a remainder is left. -/
def divFinite (fmt : Format) (neg : Bool) (ma : Nat) (ea : Int) (mb : Nat) (eb : Int) : FpResult :=
  let k := fmt.fracBits + 4 + Nat.log2 mb
  let n := ma <<< k
  roundNearest fmt neg (n / mb) (ea - eb - k) (decide (n % mb ≠ 0))

/-- DIV.fmt (R261, R262). -/
def fpDiv (fmt : Format) (a b : Nat) : FpResult :=
  match unpack fmt a, unpack fmt b with
  | .nan, _ => .anyNaN
  | _, .nan => .anyNaN
  | .inf _, .inf _ => .invalid
  | .inf na, .finite nb _ _ => fpInf fmt (na ^^ nb)
  | .finite na _ _, .inf nb => fpZero fmt (na ^^ nb)
  | .finite na ma ea, .finite nb mb eb =>
    if mb = 0 then (if ma = 0 then .invalid else fpInf fmt (na ^^ nb))
    else divFinite fmt (na ^^ nb) ma ea mb eb

/-- The integer square root by bits: `root` is right above bit b - 1, and the bits below are decided from the top. -/
def sqrtBits (n : Nat) : Nat → Nat → Nat
  | 0, root => root
  | b + 1, root => if (root + 2 ^ b) * (root + 2 ^ b) ≤ n then sqrtBits n b (root + 2 ^ b) else sqrtBits n b root

/-- The integer square root. -/
def intSqrt (n : Nat) : Nat := sqrtBits n (Nat.log2 n / 2 + 1) 0

/-- SQRT.fmt (R263, R264). The significand is scaled so that its exponent is even and its root has at least three bits beyond the
precision. -/
def fpSqrt (fmt : Format) (a : Nat) : FpResult :=
  match unpack fmt a with
  | .nan => .anyNaN
  | .inf neg => if neg then .invalid else fpInf fmt false
  | .finite neg m e =>
    if m = 0 then fpZero fmt neg
    else if neg then .invalid
    else
      let k := 2 * (fmt.fracBits + 3) + (e % 2).toNat
      let n := m <<< k
      let r := intSqrt n
      roundNearest fmt false r ((e - k) / 2) (decide (r * r ≠ n))

/-- RECIP.fmt: 1 / x, correctly rounded (R271, R272, U10). -/
def fpRecip (fmt : Format) (a : Nat) : FpResult := fpDiv fmt fmt.oneBits a

/-- RSQRT.fmt: the square root, rounded, and then its reciprocal, rounded (R273, R274, U10). -/
def fpRsqrt (fmt : Format) (a : Nat) : FpResult :=
  match fpSqrt fmt a with
  | .bits t => fpRecip fmt t
  | .invalid => .invalid
  | .anyNaN => .anyNaN

/-- The addend plus the exact product of two finite values, rounded once; an exact zero is -0 only if addend and product are
(R275, R276, U10). -/
def fusedValues (fmt : Format) (c a b : FpValue) : FpResult :=
  match a, b with
  | .nan, _ => .anyNaN
  | _, .nan => .anyNaN
  | .inf na, .inf nb => addValues fmt c (.inf (na ^^ nb))
  | .inf na, .finite nb m _ => if m = 0 then .invalid else addValues fmt c (.inf (na ^^ nb))
  | .finite na m _, .inf nb => if m = 0 then .invalid else addValues fmt c (.inf (na ^^ nb))
  | .finite na ma ea, .finite nb mb eb => addValues fmt c (.finite (na ^^ nb) (ma * mb) (ea + eb))

/-- MADDF.fmt: fd + fs x ft, fused (R275, R276). -/
def fpMaddf (fmt : Format) (c a b : Nat) : FpResult := fusedValues fmt (unpack fmt c) (unpack fmt a) (unpack fmt b)
/-- MSUBF.fmt: fd - fs x ft, fused (R277, R278). With a NaN minuend the result is some quiet NaN (R252, U5), infinity times 0 or not:
only MADDF's rules make an exception (DEDUCED, safe: notes/assumptions/9.md). -/
def fpMsubf (fmt : Format) (c a b : Nat) : FpResult :=
  if fpIsNaN fmt c then .anyNaN else fusedValues fmt (unpack fmt c) (unpack fmt a).negate (unpack fmt b)

/-! ### Integral values and conversions -/

/-- A finite value rounded to an integer in a direction (R380). -/
def roundToInt (dir : RoundDir) (neg : Bool) (m : Nat) (e : Int) : Int := signedInt neg (roundAt dir neg m e 0 false)

/-- RINT.fmt: the nearest integral value, ties to even; a zero result keeps the sign (R279, R280). -/
def fpRint (fmt : Format) (a : Nat) : FpResult :=
  match unpack fmt a with
  | .nan => .anyNaN
  | .inf neg => fpInf fmt neg
  | .finite neg m e => roundNearest fmt neg (roundAt .nearestEven neg m e 0 false) 0 false

/-- A value of one format in another, rounded once (R381, R384). -/
def fpConvert (src dst : Format) (a : Nat) : FpResult :=
  match unpack src a with
  | .nan => .anyNaN
  | .inf neg => fpInf dst neg
  | .finite neg m e => roundNearest dst neg m e false

/-- An integer in a format, rounded once (R380, R382, R383, R385, R386). -/
def fpOfInt (fmt : Format) (i : Int) : FpResult := roundNearest fmt (decide (i < 0)) i.natAbs 0 false

/-- A value as a signed integer of a width: rounded in a direction, then clamped; a NaN gives 0 (R380). -/
def fpToInt (fmt : Format) (dir : RoundDir) (width : Nat) (a : Nat) : Int :=
  match unpack fmt a with
  | .nan => 0
  | .inf neg => if neg then -(2 : Int) ^ (width - 1) else (2 : Int) ^ (width - 1) - 1
  | .finite neg m e => max (-(2 : Int) ^ (width - 1)) (min ((2 : Int) ^ (width - 1) - 1) (roundToInt dir neg m e))

/-! ### Comparison, minimum, maximum, class -/

/-- A key that orders the patterns that are not NaN as their values are ordered, with one key for both zeros: in one format a larger
magnitude pattern is a larger magnitude. -/
def fpKey (fmt : Format) (p : Nat) : Int := signedInt (fpNeg fmt p) (fpMagnitude fmt p)

/-- Unordered: one of the two is a NaN, quiet or signalling (R320). -/
def fpUnordered (fmt : Format) (a b : Nat) : Bool := fpIsNaN fmt a || fpIsNaN fmt b
/-- a = b, with +0 = -0 (R320). -/
def fpEqual (fmt : Format) (a b : Nat) : Bool := !fpUnordered fmt a b && decide (fpKey fmt a = fpKey fmt b)
/-- a < b (R320). -/
def fpLess (fmt : Format) (a b : Nat) : Bool := !fpUnordered fmt a b && decide (fpKey fmt a < fpKey fmt b)

/-- a <= b for the minimum and maximum, with -0 below +0 (R283, R287). -/
def fpOrdered (fmt : Format) (a b : Nat) : Bool :=
  decide (fpKey fmt a < fpKey fmt b) || (decide (fpKey fmt a = fpKey fmt b) && (fpNeg fmt a || !fpNeg fmt b))

/-- The NaN cases that MIN, MAX, MINA and MAXA share, and `pick` where neither operand is a NaN (R283, R285, R287, R289). -/
def fpNumberOf (fmt : Format) (a b pick : Nat) : FpResult :=
  if fpIsNaN fmt a && fpIsNaN fmt b then .anyNaN
  else if fpIsNaN fmt a then .bits b
  else if fpIsNaN fmt b then .bits a
  else .bits pick

/-- The smaller operand (R283). -/
def fpSmaller (fmt : Format) (a b : Nat) : Nat := if fpOrdered fmt a b then a else b
/-- The larger operand (R287). -/
def fpLarger (fmt : Format) (a b : Nat) : Nat := if fpOrdered fmt a b then b else a

/-- MIN.fmt (R283, R284). -/
def fpMin (fmt : Format) (a b : Nat) : FpResult := fpNumberOf fmt a b (fpSmaller fmt a b)
/-- MAX.fmt (R287, R288). -/
def fpMax (fmt : Format) (a b : Nat) : FpResult := fpNumberOf fmt a b (fpLarger fmt a b)
/-- MINA.fmt (R285, R286). -/
def fpMina (fmt : Format) (a b : Nat) : FpResult :=
  fpNumberOf fmt a b
    (if fpMagnitude fmt a < fpMagnitude fmt b then a
     else if fpMagnitude fmt b < fpMagnitude fmt a then b
     else fpSmaller fmt a b)
/-- MAXA.fmt (R289, R290). -/
def fpMaxa (fmt : Format) (a b : Nat) : FpResult :=
  fpNumberOf fmt a b
    (if fpMagnitude fmt b < fpMagnitude fmt a then a
     else if fpMagnitude fmt a < fpMagnitude fmt b then b
     else fpLarger fmt a b)

/-- Which bit of the CLASS mask a pattern sets (R281, R282). -/
def fpClassBit (fmt : Format) (p : Nat) : Nat :=
  if fpIsNaN fmt p then (if fpIsQuiet fmt p then 1 else 0)
  else
    let kind :=
      if fpMagnitude fmt p = fmt.infBits then 2
      else if fpMagnitude fmt p = 0 then 5
      else if fpExponent fmt p = 0 then 4
      else 3
    if fpNeg fmt p then kind else kind + 4

/-- The CLASS mask (R281, R282). -/
def fpClass (fmt : Format) (p : Nat) : Nat := 2 ^ fpClassBit fmt p

end Sys2Proof.Machine
end

