-- ==== Sys2Proof/Machine/Operands.lean ====
section
/-! DEFINITION. The operand forms: immediates, effective addresses and branch targets (30_encoding.md R73, 43_branch_jump.md R190,
48_load_store_atomic.md R480), control transfers and links, and the floating-point operand views (44_fpu_arithmetic.md R250). -/

namespace Sys2Proof.Machine

/-! ### Immediates and addresses -/

/-- The address of the running instruction: pc is addr + 4 during a handler (R23, R36). DEDUCED, safe: notes/assumptions/16.md. -/
def State.addr (s : State) : Word := s.pc - 4#32

/-- sext_32 of a 16-bit immediate (R73). -/
def sext16 (imm : Half) : Word := imm.signExtend 32
/-- zext_32 of a 16-bit immediate (R73). -/
def zext16 (imm : Half) : Word := imm.setWidth 32
/-- imm << 16 (R73). -/
def upper16 (imm : Half) : Word := imm ++ 0#16
/-- sext_32(imm19 << 2): the 21-bit value is sign-extended (R73). -/
def sext19 (imm : BitVec 19) : Word := (imm ++ 0#2).signExtend 32

/-- EA16 = x[base] + sext_32(off) (R480). -/
def State.ea16 (s : State) (base : Reg) (off : Half) : Word := s.getX base + sext16 off
/-- EA9 = x[base] + sext_32(off9) (R480). -/
def State.ea9 (s : State) (base : Reg) (off : BitVec 9) : Word := s.getX base + off.signExtend 32
/-- x[base] + sext_32(off11) (R545). -/
def State.ea11 (s : State) (base : Reg) (off : BitVec 11) : Word := s.getX base + off.signExtend 32
/-- addr + sext_32(imm19 << 2) (R131, R494). -/
def State.pcRel19 (s : State) (imm : BitVec 19) : Word := s.addr + sext19 imm

/-- BranchTarget16(imm) = npc + (sext_32(imm) << 2); npc is the handler's pc (R190). -/
def State.branchTarget16 (s : State) (imm : Half) : Word := s.pc + (sext16 imm <<< 2)
/-- BranchTarget26(off26) = npc + (sext_32(off26) << 2) (R190). -/
def State.branchTarget26 (s : State) (off : BitVec 26) : Word := s.pc + (off.signExtend 32 <<< 2)
/-- JumpTarget(index) = npc[31:28] || index || 00 (R190). -/
def State.jumpTarget (s : State) (index : BitVec 26) : Word := s.pc.extractLsb' 28 4 ++ index ++ 0#2
/-- The target of JIC and JIALC: x[rt] + sext_32(imm), not shifted (R73, R234). -/
def State.indexedTarget (s : State) (rt : Reg) (imm : Half) : Word := s.getX rt + sext16 imm

/-- addr + 8, the link of JAL, JALR, BAL, BLTZAL, BGEZAL and NAL (R194). -/
def State.link8 (s : State) : Word := s.addr + 8#32
/-- addr + 4, the link of the compact linking transfers (R194). -/
def State.link4 (s : State) : Word := s.addr + 4#32
/-- The link register, GPR 31 (R194). -/
def linkReg : Reg := 31#5

/-! ### Control transfers -/

/-- A transfer without a delay slot: pc <- t if taken, else pc stays npc (R190, R191). -/
def branchIf (taken : Bool) (t : Word) (s : State) : Result := .next (if taken then s.setPc t else s)

/-- A linking transfer without a delay slot: the link is written whether or not it is taken (R194). -/
def linkBranchIf (link : Word) (taken : Bool) (t : Word) (s : State) : Result :=
  branchIf taken t (s.setX linkReg link)

/-- Steps (2) to (4) of a transfer with a delay slot (R193): the link is written, and the slot and the pc write are left to the rest
of the running step (Cycle.lean). -/
def linkWithSlot (r : Reg) (taken : Bool) (t : Word) (s : State) : Result :=
  .next ((s.setX r s.link8).setSlot (if taken then .transfer t else .fallThrough))

/-- A trap: raises Trap if the condition holds, else has no effect (R567). -/
def trapIf (c : Bool) (s : State) : Result := .next (if c then s.raise .trap else s)

/-! ### Floating-point results -/

/-- Some quiet binary32 NaN: exponent all ones, the top fraction bit 1, every other bit free (R252, U5). -/
def State.freeQuietS (s : State) : Word := s.freeWord ||| 0x7FC00000#32
/-- Some quiet binary64 NaN (R252, U5). -/
def State.freeQuietD (s : State) : DWord := s.freeDWord ||| 0x7FF8000000000000#64

/-- f[fd] <- an arithmetic result of format S (R250, R252). -/
def putS (fd : Reg) (r : FpResult) (s : State) : State :=
  match r with
  | .bits p => s.setF fd (BitVec.ofNat 32 p)
  | .invalid => s.setF fd s.params.qnanS
  | .anyNaN => (s.setF fd s.freeQuietS).draw

/-- D(fd) <- an arithmetic result of format D (R250, R252). -/
def putD (fd : Reg) (r : FpResult) (s : State) : State :=
  match r with
  | .bits p => s.setD fd (BitVec.ofNat 64 p)
  | .invalid => s.setD fd s.params.qnanD
  | .anyNaN => (s.setD fd s.freeQuietD).draw

/-- The pattern of f[n] (R250). -/
def State.patS (s : State) (n : Reg) : Nat := (s.getF n).toNat
/-- The pattern of D(n) (R250). -/
def State.patD (s : State) (n : Reg) : Nat := (s.getD n).toNat

/-- A one-operand operation of format S (R250). -/
def unaryS (op : Nat → FpResult) (fd fs : Reg) (s : State) : Result := .next (putS fd (op (s.patS fs)) s)
/-- A one-operand operation of format D (R250). -/
def unaryD (op : Nat → FpResult) (fd fs : Reg) (s : State) : Result :=
  onPairs (evenReg fd && evenReg fs) (.next (putD fd (op (s.patD fs)) s))
/-- A two-operand operation of format S (R250). -/
def binaryS (op : Nat → Nat → FpResult) (fd fs ft : Reg) (s : State) : Result :=
  .next (putS fd (op (s.patS fs) (s.patS ft)) s)
/-- A two-operand operation of format D (R250). -/
def binaryD (op : Nat → Nat → FpResult) (fd fs ft : Reg) (s : State) : Result :=
  onPairs (evenReg fd && evenReg fs && evenReg ft) (.next (putD fd (op (s.patD fs) (s.patD ft)) s))
/-- An operation of format S that reads its destination first (R254, R275). -/
def ternaryS (op : Nat → Nat → Nat → FpResult) (fd fs ft : Reg) (s : State) : Result :=
  .next (putS fd (op (s.patS fd) (s.patS fs) (s.patS ft)) s)
/-- An operation of format D that reads its destination first (R254, R276). -/
def ternaryD (op : Nat → Nat → Nat → FpResult) (fd fs ft : Reg) (s : State) : Result :=
  onPairs (evenReg fd && evenReg fs && evenReg ft) (.next (putD fd (op (s.patD fd) (s.patD fs) (s.patD ft)) s))

/-- A bit operation of format S on fs (R265 to R270). -/
def bitwiseS (op : Word → Word) (fd fs : Reg) (s : State) : Result := .next (s.setF fd (op (s.getF fs)))
/-- A bit operation of format D on fs (R265 to R270). -/
def bitwiseD (op : DWord → DWord) (fd fs : Reg) (s : State) : Result :=
  onPairs (evenReg fd && evenReg fs) (.next (s.setD fd (op (s.getD fs))))
/-- A selection of format S, from fd, fs and ft (R291 to R293). -/
def selectS (op : Word → Word → Word → Word) (fd fs ft : Reg) (s : State) : Result :=
  .next (s.setF fd (op (s.getF fd) (s.getF fs) (s.getF ft)))
/-- A selection of format D, from fd, fs and ft (R294 to R296). -/
def selectD (op : DWord → DWord → DWord → DWord) (fd fs ft : Reg) (s : State) : Result :=
  onPairs (evenReg fd && evenReg fs && evenReg ft) (.next (s.setD fd (op (s.getD fd) (s.getD fs) (s.getD ft))))

/-- What a comparison does once its mask is written: a signalling one raises if the operands are unordered (R321, R569). -/
def signalIf (c : Bool) (s : State) : State := if c then s.raise .invalidFloatingPointOperation else s

/-- The predicate of CMP.cond.fmt on two patterns (R320). -/
def fpCompare (fmt : Format) (cond : BitVec 5) (a b : Nat) : Bool :=
  fpPredicate cond (fpUnordered fmt a b) (fpEqual fmt a b) (fpLess fmt a b)

/-- CMP.cond.S: the mask is written first, then a signalling comparison may raise (R320, R321). -/
def compareS (cond : BitVec 5) (fd fs ft : Reg) (s : State) : Result :=
  .next (signalIf (fpSignalling cond && fpUnordered binary32 (s.patS fs) (s.patS ft))
    (s.setF fd (if fpCompare binary32 cond (s.patS fs) (s.patS ft) then 0xFFFFFFFF#32 else 0#32)))

/-- CMP.cond.D (R320, R321). -/
def compareD (cond : BitVec 5) (fd fs ft : Reg) (s : State) : Result :=
  onPairs (evenReg fd && evenReg fs && evenReg ft)
    (.next (signalIf (fpSignalling cond && fpUnordered binary64 (s.patD fs) (s.patD ft))
      (s.setD fd (if fpCompare binary64 cond (s.patD fs) (s.patD ft) then 0xFFFFFFFFFFFFFFFF#64 else 0#64))))

/-- A conversion from S to a 32-bit integer (R380). -/
def toWordFromS (dir : RoundDir) (fd fs : Reg) (s : State) : Result :=
  .next (s.setF fd (BitVec.ofInt 32 (fpToInt binary32 dir 32 (s.patS fs))))
/-- A conversion from D to a 32-bit integer (R380). -/
def toWordFromD (dir : RoundDir) (fd fs : Reg) (s : State) : Result :=
  onPairs (evenReg fs) (.next (s.setF fd (BitVec.ofInt 32 (fpToInt binary64 dir 32 (s.patD fs)))))
/-- A conversion from S to a 64-bit integer (R380). -/
def toLongFromS (dir : RoundDir) (fd fs : Reg) (s : State) : Result :=
  onPairs (evenReg fd) (.next (s.setD fd (BitVec.ofInt 64 (fpToInt binary32 dir 64 (s.patS fs)))))
/-- A conversion from D to a 64-bit integer (R380). -/
def toLongFromD (dir : RoundDir) (fd fs : Reg) (s : State) : Result :=
  onPairs (evenReg fd && evenReg fs) (.next (s.setD fd (BitVec.ofInt 64 (fpToInt binary64 dir 64 (s.patD fs)))))

end Sys2Proof.Machine
end

