-- ==== Sys2Proof/Machine/Cycle.lean ====
section
/-! DEFINITION. One pass of the step function (10_state.md R34 to R38) and the delay slot (43_branch_jump.md R191 to R196), over the
meaning of an instruction as an argument; Step.lean supplies it. -/

namespace Sys2Proof.Machine

-- What decodes is not compiled: see Decode.lean.
noncomputable section

/-- The word at pc, none where a byte of it lies outside the memory (R34, R57, R58). -/
def fetchWord (s : State) : Option Word :=
  if s.accessible s.pc 4 then some (load32 s.mem s.pc) else none

/-- The COP2 gate is closed for a word: its primary opcode is 0x12 and bit 1 of copBit is 0 (R35). -/
def gateClosed (s : State) (w : Word) : Bool := opcodeF w == 0x12#6 && !s.copBit.getLsbD 1

/-- The entry of a word in DECODE_FALLBACK. -/
def lookupWord : List (Word × Instr) → Word → Option Instr
  | [], _ => none
  | (k, i) :: rest, w => if k = w then some i else lookupWord rest w

/-- Decoding with the parameter DECODE_FALLBACK for the words of a collision group that satisfy no rule (R37, R86). -/
def decodeIn (p : Params) (w : Word) : Option Instr :=
  match decode w with
  | some i => some i
  | none => if uncovered w then lookupWord p.decodeFallback w else none

/-- The four instructions that run a delay slot: BAL, JAL, JALR and BLTZAL (R191). -/
def hasDelaySlot (i : Instr) : Bool :=
  match i with
  | .bal _ => true
  | .jal _ => true
  | .jalr _ _ => true
  | .bltzal _ _ => true
  | _ => false

/-- Fetch, gate, pc advance, decode, execute (R34 to R38). In a delay slot (`nested`) one of the four delay-slot instructions is
refused (R195, U2). -/
def pass (run : Instr → State → Result) (nested : Bool) (s : State) : Result :=
  match fetchWord s with
  | none => .refused .outsideMemory
  | some w =>
    if gateClosed s w then .next s
    else
      match decodeIn s.params w with
      | none => .next ((s.setPc (s.pc + 4#32)).raise .unknownOpcode)
      | some i =>
        if nested && hasDelaySlot i then .refused .nestedDelaySlot
        else run i (s.setPc (s.pc + 4#32))

/-- pc <- t after the slot, if the transfer is taken (R193). -/
def leaveSlot (d : DelaySlot) (s : State) : State :=
  match d with
  | .transfer t => s.setPc t
  | .fallThrough => s
  | .idle => s

/-- RunDelaySlot() and what follows it (R192, R193): one nested pass at pc; a condition raised there ends the step without the pc
write. -/
def runSlot (run : Instr → State → Result) (d : DelaySlot) (s : State) : Result :=
  match pass run true s with
  | .next t => .next (if t.raised.isSome then t else leaveSlot d t)
  | .fault r => .fault r
  | .refused r => .refused r

/-- The state in which a step starts its work: nothing raised and no delay slot owed yet. -/
def State.begin (s : State) : State := (s.setRaised none).setSlot .idle

/-- One step (R34 to R41): a pass and, when the instruction owes one, its delay slot. -/
def stepWith (run : Instr → State → Result) (s : State) : Result :=
  match pass run false s.begin with
  | .next t =>
    match t.slot with
    | .idle => .next t
    | .fallThrough => runSlot run .fallThrough (t.setSlot .idle)
    | .transfer a => runSlot run (.transfer a) (t.setSlot .idle)
  | .fault r => .fault r
  | .refused r => .refused r

end

end Sys2Proof.Machine
end

