-- ==== Sys2Proof/Machine/Arith.lean ====
section
/-! DEFINITION. Integer arithmetic, logic, selection, counts, bytes and bit fields: the meanings of the instructions of 40_arithmetic_logic.md. In a meaning pc is
addr + 4 (10_state.md R36, R38). -/

namespace Sys2Proof.Machine

/-- The bytes inside each halfword exchanged (R125). -/
def swapHalfBytes (v : Word) : Word :=
  v.extractLsb' 16 8 ++ v.extractLsb' 24 8 ++ v.extractLsb' 0 8 ++ v.extractLsb' 8 8

/-- The bits of a byte in reverse order (R126). -/
def reverseByte (b : Byte) : Byte :=
  b.extractLsb' 0 1 ++ b.extractLsb' 1 1 ++ b.extractLsb' 2 1 ++ b.extractLsb' 3 1 ++ b.extractLsb' 4 1 ++ b.extractLsb' 5 1
    ++ b.extractLsb' 6 1 ++ b.extractLsb' 7 1

/-- The bits inside each byte in reverse order, the bytes in place (R126). -/
def reverseByteBits (v : Word) : Word :=
  reverseByte (v.extractLsb' 24 8) ++ reverseByte (v.extractLsb' 16 8) ++ reverseByte (v.extractLsb' 8 8)
    ++ reverseByte (v.extractLsb' 0 8)

/-- The word that starts bp bytes into `low` and ends in the top bytes of `high` (R127). -/
def joinBytes (bp : BitVec 2) (high low : Word) : Word :=
  if bp = 0#2 then low else (low <<< (8 * bp.toNat)) ||| (high >>> (32 - 8 * bp.toNat))

/-- A word whose low `size` bits are 1. -/
def lowOnes (size : Nat) : Word := BitVec.ofNat 32 (2 ^ size - 1)

/-- The field of `size` bits from bit `lsb`, zero-extended (R128). -/
def extractField (lsb size : Nat) (v : Word) : Word := (v >>> lsb) &&& lowOnes size

/-- `old` with its field of `size` bits from bit `lsb` replaced by the low bits of `v` (R129). -/
def insertField (lsb size : Nat) (old v : Word) : Word :=
  (old &&& ~~~(lowOnes size <<< lsb)) ||| ((v &&& lowOnes size) <<< lsb)

/-- add rd, rs, rt (R101). It wraps unless ADD_OVERFLOW_TRAPS holds (R570; D19). -/
def execAdd (rd rs rt : Reg) (s : State) : Result :=
  if s.params.addOverflowTraps && sumOverflows (s.getX rs) (s.getX rt) then .next (s.raise .integerOverflow)
  else .next (s.setX rd (s.getX rs + s.getX rt))

/-- addu rd, rs, rt (R102). -/
def execAddu (rd rs rt : Reg) (s : State) : Result := .next (s.setX rd (s.getX rs + s.getX rt))

/-- sub rd, rs, rt (R103). It raises IntegerOverflow before writing (R570). -/
def execSub (rd rs rt : Reg) (s : State) : Result :=
  if differenceOverflows (s.getX rs) (s.getX rt) then .next (s.raise .integerOverflow)
  else .next (s.setX rd (s.getX rs - s.getX rt))

/-- subu rd, rs, rt (R104). -/
def execSubu (rd rs rt : Reg) (s : State) : Result := .next (s.setX rd (s.getX rs - s.getX rt))

/-- addiu rt, rs, imm (R105). -/
def execAddiu (rt rs : Reg) (imm : Half) (s : State) : Result := .next (s.setX rt (s.getX rs + sext16 imm))

/-- and rd, rs, rt (R106). -/
def execAnd (rd rs rt : Reg) (s : State) : Result := .next (s.setX rd (s.getX rs &&& s.getX rt))

/-- or rd, rs, rt (R107). -/
def execOr (rd rs rt : Reg) (s : State) : Result := .next (s.setX rd (s.getX rs ||| s.getX rt))

/-- xor rd, rs, rt (R108). -/
def execXor (rd rs rt : Reg) (s : State) : Result := .next (s.setX rd (s.getX rs ^^^ s.getX rt))

/-- nor rd, rs, rt (R109). -/
def execNor (rd rs rt : Reg) (s : State) : Result := .next (s.setX rd (~~~(s.getX rs ||| s.getX rt)))

/-- andi rt, rs, imm (R110). -/
def execAndi (rt rs : Reg) (imm : Half) (s : State) : Result := .next (s.setX rt (s.getX rs &&& zext16 imm))

/-- ori rt, rs, imm (R111). -/
def execOri (rt rs : Reg) (imm : Half) (s : State) : Result := .next (s.setX rt (s.getX rs ||| zext16 imm))

/-- xori rt, rs, imm (R112). -/
def execXori (rt rs : Reg) (imm : Half) (s : State) : Result := .next (s.setX rt (s.getX rs ^^^ zext16 imm))

/-- slt rd, rs, rt (R113). -/
def execSlt (rd rs rt : Reg) (s : State) : Result := .next (s.setX rd (truthWord (ltSigned (s.getX rs) (s.getX rt))))

/-- sltu rd, rs, rt (R114). -/
def execSltu (rd rs rt : Reg) (s : State) : Result := .next (s.setX rd (truthWord (ltUnsigned (s.getX rs) (s.getX rt))))

/-- slti rt, rs, imm (R115). -/
def execSlti (rt rs : Reg) (imm : Half) (s : State) : Result :=
  .next (s.setX rt (truthWord (ltSigned (s.getX rs) (sext16 imm))))

/-- sltiu rt, rs, imm (R116). -/
def execSltiu (rt rs : Reg) (imm : Half) (s : State) : Result :=
  .next (s.setX rt (truthWord (ltUnsigned (s.getX rs) (sext16 imm))))

/-- lui rt, imm (R117). It does not read GPR 0 (R85). -/
def execLui (rt : Reg) (imm : Half) (s : State) : Result := .next (s.setX rt (upper16 imm))

/-- aui rt, rs, imm (R118). -/
def execAui (rt rs : Reg) (imm : Half) (s : State) : Result := .next (s.setX rt (s.getX rs + upper16 imm))

/-- seleqz rd, rs, rt (R119). -/
def execSeleqz (rd rs rt : Reg) (s : State) : Result := .next (s.setX rd (if s.getX rt = 0#32 then s.getX rs else 0#32))

/-- selnez rd, rs, rt (R120). -/
def execSelnez (rd rs rt : Reg) (s : State) : Result := .next (s.setX rd (if s.getX rt ≠ 0#32 then s.getX rs else 0#32))

/-- clz rd, rs (R121). -/
def execClz (rd rs : Reg) (s : State) : Result := .next (s.setX rd (BitVec.ofNat 32 (leadingRun false (s.getX rs) 32)))

/-- clo rd, rs (R122). -/
def execClo (rd rs : Reg) (s : State) : Result := .next (s.setX rd (BitVec.ofNat 32 (leadingRun true (s.getX rs) 32)))

/-- seb rd, rt (R123). -/
def execSeb (rd rt : Reg) (s : State) : Result := .next (s.setX rd (((s.getX rt).extractLsb' 0 8).signExtend 32))

/-- seh rd, rt (R124). -/
def execSeh (rd rt : Reg) (s : State) : Result := .next (s.setX rd (((s.getX rt).extractLsb' 0 16).signExtend 32))

/-- wsbh rd, rt (R125). -/
def execWsbh (rd rt : Reg) (s : State) : Result := .next (s.setX rd (swapHalfBytes (s.getX rt)))

/-- bitswap rd, rt (R126). -/
def execBitswap (rd rt : Reg) (s : State) : Result := .next (s.setX rd (reverseByteBits (s.getX rt)))

/-- align rd, rs, rt, bp (R127). -/
def execAlign (rd rs rt : Reg) (bp : BitVec 2) (s : State) : Result :=
  .next (s.setX rd (joinBytes bp (s.getX rs) (s.getX rt)))

/-- ext rt, rs, pos, size (R128). -/
def execExt (rt rs msb lsb : Reg) (s : State) : Result :=
  if lsb.toNat + msb.toNat ≤ 31 then .next (s.setX rt (extractField lsb.toNat (msb.toNat + 1) (s.getX rs)))
  else .refused .bitField

/-- ins rt, rs, pos, size (R129). -/
def execIns (rt rs msb lsb : Reg) (s : State) : Result :=
  if lsb.toNat ≤ msb.toNat then
    .next (s.setX rt (insertField lsb.toNat (msb.toNat - lsb.toNat + 1) (s.getX rt) (s.getX rs)))
  else .refused .bitField

/-- lsa rd, rs, rt, sa (R130). -/
def execLsa (rd rs rt : Reg) (sa2 : BitVec 2) (s : State) : Result :=
  .next (s.setX rd ((s.getX rs <<< (sa2.toNat + 1)) + s.getX rt))

/-- addiupc rs, imm (R131). -/
def execAddiupc (rs : Reg) (imm19 : BitVec 19) (s : State) : Result := .next (s.setX rs (s.pcRel19 imm19))

/-- auipc rs, imm (R132). -/
def execAuipc (rs : Reg) (imm : Half) (s : State) : Result := .next (s.setX rs (s.addr + upper16 imm))

/-- aluipc rs, imm (R133). -/
def execAluipc (rs : Reg) (imm : Half) (s : State) : Result := .next (s.setX rs ((s.addr + upper16 imm) &&& 0xFFFF0000#32))

end Sys2Proof.Machine
end

