-- ==== Sys2Proof/Machine/Branch.lean ====
section
/-! DEFINITION. Branches and jumps: the meanings of the instructions of 43_branch_jump.md. In a meaning pc is
addr + 4 (10_state.md R36, R38). -/

namespace Sys2Proof.Machine

/-- j target (R198). -/
def execJ (index : BitVec 26) (s : State) : Result := branchIf true (s.jumpTarget index) s

/-- jal target (R199). The delay slot and the pc write follow in the same step (R193, Cycle.lean). -/
def execJal (index : BitVec 26) (s : State) : Result := linkWithSlot linkReg true (s.jumpTarget index) s

/-- jr rs (R200). -/
def execJr (rs : Reg) (s : State) : Result := branchIf true (s.getX rs) s

/-- jalr rd, rs (R201). A target that is not 4-byte aligned raises AddressError before anything is written (R568). The delay slot and the pc write follow in the same step (R193, Cycle.lean). -/
def execJalr (rd rs : Reg) (s : State) : Result :=
  if (s.getX rs).extractLsb' 0 2 = 0#2 then linkWithSlot rd true (s.getX rs) s
  else .next (s.raise .addressError)

/-- beq rs, rt, offset (R202). -/
def execBeq (rs rt : Reg) (imm : Half) (s : State) : Result := branchIf (s.getX rs == s.getX rt) (s.branchTarget16 imm) s

/-- bne rs, rt, offset (R203). -/
def execBne (rs rt : Reg) (imm : Half) (s : State) : Result := branchIf (s.getX rs != s.getX rt) (s.branchTarget16 imm) s

/-- blez rs, offset (R204). -/
def execBlez (rs : Reg) (imm : Half) (s : State) : Result := branchIf (isNotPositive (s.getX rs)) (s.branchTarget16 imm) s

/-- bgtz rs, offset (R205). -/
def execBgtz (rs : Reg) (imm : Half) (s : State) : Result := branchIf (!isNotPositive (s.getX rs)) (s.branchTarget16 imm) s

/-- bltz rs, offset (R206). -/
def execBltz (rs : Reg) (imm : Half) (s : State) : Result := branchIf (isNegative (s.getX rs)) (s.branchTarget16 imm) s

/-- bgez rs, offset (R207). -/
def execBgez (rs : Reg) (imm : Half) (s : State) : Result := branchIf (!isNegative (s.getX rs)) (s.branchTarget16 imm) s

/-- bltzal rs, offset (R208). The delay slot and, if taken, the pc write follow in the same step (R193, Cycle.lean). -/
def execBltzal (rs : Reg) (imm : Half) (s : State) : Result :=
  linkWithSlot linkReg (isNegative (s.getX rs)) (s.branchTarget16 imm) s

/-- nal (R209). -/
def execNal (_imm : Half) (s : State) : Result := .next (s.setX linkReg s.link8)

/-- bgezal rs, offset (R210). -/
def execBgezal (rs : Reg) (imm : Half) (s : State) : Result :=
  linkBranchIf s.link8 (!isNegative (s.getX rs)) (s.branchTarget16 imm) s

/-- bal offset (R211). The delay slot and the pc write follow in the same step (R193, Cycle.lean). -/
def execBal (imm : Half) (s : State) : Result := linkWithSlot linkReg true (s.branchTarget16 imm) s

/-- bc offset (R212). -/
def execBc (off26 : BitVec 26) (s : State) : Result := branchIf true (s.branchTarget26 off26) s

/-- balc offset (R213). -/
def execBalc (off26 : BitVec 26) (s : State) : Result := linkBranchIf s.link4 true (s.branchTarget26 off26) s

/-- beqc rs, rt, offset (R214). -/
def execBeqc (rs rt : Reg) (imm : Half) (s : State) : Result := branchIf (s.getX rs == s.getX rt) (s.branchTarget16 imm) s

/-- bnec rs, rt, offset (R215). -/
def execBnec (rs rt : Reg) (imm : Half) (s : State) : Result := branchIf (s.getX rs != s.getX rt) (s.branchTarget16 imm) s

/-- bltc rs, rt, offset (R216). -/
def execBltc (rs rt : Reg) (imm : Half) (s : State) : Result :=
  branchIf (ltSigned (s.getX rs) (s.getX rt)) (s.branchTarget16 imm) s

/-- bgec rs, rt, offset (R217). -/
def execBgec (rs rt : Reg) (imm : Half) (s : State) : Result :=
  branchIf (!ltSigned (s.getX rs) (s.getX rt)) (s.branchTarget16 imm) s

/-- bltuc rs, rt, offset (R218). -/
def execBltuc (rs rt : Reg) (imm : Half) (s : State) : Result :=
  branchIf (ltUnsigned (s.getX rs) (s.getX rt)) (s.branchTarget16 imm) s

/-- bgeuc rs, rt, offset (R219). -/
def execBgeuc (rs rt : Reg) (imm : Half) (s : State) : Result :=
  branchIf (!ltUnsigned (s.getX rs) (s.getX rt)) (s.branchTarget16 imm) s

/-- blezc rt, offset (R220). -/
def execBlezc (rt : Reg) (imm : Half) (s : State) : Result := branchIf (isNotPositive (s.getX rt)) (s.branchTarget16 imm) s

/-- bgezc rt, offset (R221). -/
def execBgezc (rt : Reg) (imm : Half) (s : State) : Result := branchIf (!isNegative (s.getX rt)) (s.branchTarget16 imm) s

/-- bgtzc rt, offset (R222). -/
def execBgtzc (rt : Reg) (imm : Half) (s : State) : Result := branchIf (!isNotPositive (s.getX rt)) (s.branchTarget16 imm) s

/-- bltzc rt, offset (R223). -/
def execBltzc (rt : Reg) (imm : Half) (s : State) : Result := branchIf (isNegative (s.getX rt)) (s.branchTarget16 imm) s

/-- beqzc rs, offset (R224). -/
def execBeqzc (rs : Reg) (imm : Half) (s : State) : Result := branchIf (s.getX rs == 0#32) (s.branchTarget16 imm) s

/-- bnezc rs, offset (R225). -/
def execBnezc (rs : Reg) (imm : Half) (s : State) : Result := branchIf (s.getX rs != 0#32) (s.branchTarget16 imm) s

/-- bovc rs, rt, offset (R226). -/
def execBovc (rs rt : Reg) (imm : Half) (s : State) : Result :=
  branchIf (sumOverflows (s.getX rs) (s.getX rt)) (s.branchTarget16 imm) s

/-- bnvc rs, rt, offset (R227). -/
def execBnvc (rs rt : Reg) (imm : Half) (s : State) : Result :=
  branchIf (!sumOverflows (s.getX rs) (s.getX rt)) (s.branchTarget16 imm) s

/-- blezalc rt, offset (R228). -/
def execBlezalc (rt : Reg) (imm : Half) (s : State) : Result :=
  linkBranchIf s.link4 (isNotPositive (s.getX rt)) (s.branchTarget16 imm) s

/-- bgezalc rt, offset (R229). -/
def execBgezalc (rt : Reg) (imm : Half) (s : State) : Result :=
  linkBranchIf s.link4 (!isNegative (s.getX rt)) (s.branchTarget16 imm) s

/-- bgtzalc rt, offset (R230). -/
def execBgtzalc (rt : Reg) (imm : Half) (s : State) : Result :=
  linkBranchIf s.link4 (!isNotPositive (s.getX rt)) (s.branchTarget16 imm) s

/-- bltzalc rt, offset (R231). -/
def execBltzalc (rt : Reg) (imm : Half) (s : State) : Result :=
  linkBranchIf s.link4 (isNegative (s.getX rt)) (s.branchTarget16 imm) s

/-- beqzalc rt, offset (R232). -/
def execBeqzalc (rt : Reg) (imm : Half) (s : State) : Result :=
  linkBranchIf s.link4 (s.getX rt == 0#32) (s.branchTarget16 imm) s

/-- bnezalc rt, offset (R233). -/
def execBnezalc (rt : Reg) (imm : Half) (s : State) : Result :=
  linkBranchIf s.link4 (s.getX rt != 0#32) (s.branchTarget16 imm) s

/-- jic rt, offset (R234). -/
def execJic (rt : Reg) (imm : Half) (s : State) : Result := branchIf true (s.indexedTarget rt imm) s

/-- jialc rt, offset (R235). -/
def execJialc (rt : Reg) (imm : Half) (s : State) : Result := linkBranchIf s.link4 true (s.indexedTarget rt imm) s

end Sys2Proof.Machine
end

