-- ==== Sys2Proof/Machine/Coproc.lean ====
section
/-! DEFINITION. Coprocessor and shadow register moves, COP2 memory and branches: the meanings of the instructions of 49_coprocessor_moves.md. In a meaning pc is
addr + 4 (10_state.md R36, R38). -/

namespace Sys2Proof.Machine

/-- mfc1 rt, fs (R533). -/
def execMfc1 (rt fs : Reg) (s : State) : Result := .next (s.setX rt (s.getF fs))

/-- mtc1 rt, fs (R534). -/
def execMtc1 (rt fs : Reg) (s : State) : Result := .next (s.setF fs (s.getX rt))

/-- mfhc1 rt, fs (R535). -/
def execMfhc1 (rt fs : Reg) (s : State) : Result := onPairs (evenReg fs) (.next (s.setX rt (s.getF (fs + 1#5))))

/-- mthc1 rt, fs (R536). -/
def execMthc1 (rt fs : Reg) (s : State) : Result := onPairs (evenReg fs) (.next (s.setF (fs + 1#5) (s.getX rt)))

/-- cfc1 rt, fs (R537). -/
def execCfc1 (rt fs : Reg) (s : State) : Result := .next (s.setX rt (s.getFcr fs))

/-- ctc1 rt, fs (R538). -/
def execCtc1 (rt fs : Reg) (s : State) : Result := .next (s.setFcr fs (s.getX rt))

/-- mfc2 rt, rd (R539). -/
def execMfc2 (rt rd : Reg) (s : State) : Result := .next (s.setX rt (s.getC2d rd))

/-- mtc2 rt, rd (R540). -/
def execMtc2 (rt rd : Reg) (s : State) : Result := .next (s.setC2d rd (s.getX rt))

/-- mfhc2 rt, rd (R541). -/
def execMfhc2 (rt rd : Reg) (s : State) : Result := onPairs (evenReg rd) (.next (s.setX rt (s.getC2d (rd + 1#5))))

/-- mthc2 rt, rd (R542). -/
def execMthc2 (rt rd : Reg) (s : State) : Result := onPairs (evenReg rd) (.next (s.setC2d (rd + 1#5) (s.getX rt)))

/-- cfc2 rt, rd (R543). -/
def execCfc2 (rt rd : Reg) (s : State) : Result := .next (s.setX rt (s.getC2c rd))

/-- ctc2 rt, rd (R544). -/
def execCtc2 (rt rd : Reg) (s : State) : Result := .next (s.setC2c rd (s.getX rt))

/-- lwc2 rt, offset(base) (R545). -/
def execLwc2 (rt base : Reg) (off11 : BitVec 11) (s : State) : Result :=
  loadWord (s.ea11 base off11) s fun v => s.setC2d rt v

/-- swc2 rt, offset(base) (R546). -/
def execSwc2 (rt base : Reg) (off11 : BitVec 11) (s : State) : Result := storeWord (s.ea11 base off11) (s.getC2d rt) s

/-- ldc2 rt, offset(base) (R547). -/
def execLdc2 (rt base : Reg) (off11 : BitVec 11) (s : State) : Result :=
  onPairs (evenReg rt) (loadDouble (s.ea11 base off11) s fun v => s.setC2dPair rt v)

/-- sdc2 rt, offset(base) (R548). -/
def execSdc2 (rt base : Reg) (off11 : BitVec 11) (s : State) : Result :=
  onPairs (evenReg rt) (storeDouble (s.ea11 base off11) (readPair s.c2d rt) s)

/-- bc2eqz ct, offset (R549). -/
def execBc2eqz (ct : Reg) (imm : Half) (s : State) : Result := branchIf (!(s.getC2d ct).getLsbD 0) (s.branchTarget16 imm) s

/-- bc2nez ct, offset (R550). -/
def execBc2nez (ct : Reg) (imm : Half) (s : State) : Result := branchIf ((s.getC2d ct).getLsbD 0) (s.branchTarget16 imm) s

/-- rdpgpr rd, rt (R551). -/
def execRdpgpr (rd rt : Reg) (s : State) : Result := .next (s.setX rd (s.getSx rt))

/-- wrpgpr rd, rt (R552). -/
def execWrpgpr (rd rt : Reg) (s : State) : Result := .next (s.setSx rd (s.getX rt))

end Sys2Proof.Machine
end

