-- ==== Sys2Proof/Machine/FpArith.lean ====
section
/-! DEFINITION. Floating-point arithmetic, selection, minimum, maximum, class: the meanings of the instructions of 44_fpu_arithmetic.md. In a meaning pc is
addr + 4 (10_state.md R36, R38). -/

namespace Sys2Proof.Machine

/-- add.s fd, fs, ft (R255). -/
def execAddS (fd fs ft : Reg) (s : State) : Result := binaryS (fpAdd binary32) fd fs ft s

/-- add.d fd, fs, ft (R256). -/
def execAddD (fd fs ft : Reg) (s : State) : Result := binaryD (fpAdd binary64) fd fs ft s

/-- sub.s fd, fs, ft (R257). -/
def execSubS (fd fs ft : Reg) (s : State) : Result := binaryS (fpSub binary32) fd fs ft s

/-- sub.d fd, fs, ft (R258). -/
def execSubD (fd fs ft : Reg) (s : State) : Result := binaryD (fpSub binary64) fd fs ft s

/-- mul.s fd, fs, ft (R259). -/
def execMulS (fd fs ft : Reg) (s : State) : Result := binaryS (fpMul binary32) fd fs ft s

/-- mul.d fd, fs, ft (R260). -/
def execMulD (fd fs ft : Reg) (s : State) : Result := binaryD (fpMul binary64) fd fs ft s

/-- div.s fd, fs, ft (R261). -/
def execDivS (fd fs ft : Reg) (s : State) : Result := binaryS (fpDiv binary32) fd fs ft s

/-- div.d fd, fs, ft (R262). -/
def execDivD (fd fs ft : Reg) (s : State) : Result := binaryD (fpDiv binary64) fd fs ft s

/-- sqrt.s fd, fs (R263). -/
def execSqrtS (fd fs : Reg) (s : State) : Result := unaryS (fpSqrt binary32) fd fs s

/-- sqrt.d fd, fs (R264). -/
def execSqrtD (fd fs : Reg) (s : State) : Result := unaryD (fpSqrt binary64) fd fs s

/-- abs.s fd, fs (R265). -/
def execAbsS (fd fs : Reg) (s : State) : Result := bitwiseS (fun v => v &&& 0x7FFFFFFF#32) fd fs s

/-- abs.d fd, fs (R266). -/
def execAbsD (fd fs : Reg) (s : State) : Result := bitwiseD (fun v => v &&& 0x7FFFFFFFFFFFFFFF#64) fd fs s

/-- mov.s fd, fs (R267). -/
def execMovS (fd fs : Reg) (s : State) : Result := bitwiseS (fun v => v) fd fs s

/-- mov.d fd, fs (R268). -/
def execMovD (fd fs : Reg) (s : State) : Result := bitwiseD (fun v => v) fd fs s

/-- neg.s fd, fs (R269). -/
def execNegS (fd fs : Reg) (s : State) : Result := bitwiseS (fun v => v ^^^ 0x80000000#32) fd fs s

/-- neg.d fd, fs (R270). -/
def execNegD (fd fs : Reg) (s : State) : Result := bitwiseD (fun v => v ^^^ 0x8000000000000000#64) fd fs s

/-- recip.s fd, fs (R271). -/
def execRecipS (fd fs : Reg) (s : State) : Result := unaryS (fpRecip binary32) fd fs s

/-- recip.d fd, fs (R272). -/
def execRecipD (fd fs : Reg) (s : State) : Result := unaryD (fpRecip binary64) fd fs s

/-- rsqrt.s fd, fs (R273). -/
def execRsqrtS (fd fs : Reg) (s : State) : Result := unaryS (fpRsqrt binary32) fd fs s

/-- rsqrt.d fd, fs (R274). -/
def execRsqrtD (fd fs : Reg) (s : State) : Result := unaryD (fpRsqrt binary64) fd fs s

/-- maddf.s fd, fs, ft (R275). -/
def execMaddfS (fd fs ft : Reg) (s : State) : Result := ternaryS (fpMaddf binary32) fd fs ft s

/-- maddf.d fd, fs, ft (R276). -/
def execMaddfD (fd fs ft : Reg) (s : State) : Result := ternaryD (fpMaddf binary64) fd fs ft s

/-- msubf.s fd, fs, ft (R277). -/
def execMsubfS (fd fs ft : Reg) (s : State) : Result := ternaryS (fpMsubf binary32) fd fs ft s

/-- msubf.d fd, fs, ft (R278). -/
def execMsubfD (fd fs ft : Reg) (s : State) : Result := ternaryD (fpMsubf binary64) fd fs ft s

/-- rint.s fd, fs (R279). -/
def execRintS (fd fs : Reg) (s : State) : Result := unaryS (fpRint binary32) fd fs s

/-- rint.d fd, fs (R280). -/
def execRintD (fd fs : Reg) (s : State) : Result := unaryD (fpRint binary64) fd fs s

/-- class.s fd, fs (R281). -/
def execClassS (fd fs : Reg) (s : State) : Result := bitwiseS (fun v => BitVec.ofNat 32 (fpClass binary32 v.toNat)) fd fs s

/-- class.d fd, fs (R282). -/
def execClassD (fd fs : Reg) (s : State) : Result := bitwiseD (fun v => BitVec.ofNat 64 (fpClass binary64 v.toNat)) fd fs s

/-- min.s fd, fs, ft (R283). -/
def execMinS (fd fs ft : Reg) (s : State) : Result := binaryS (fpMin binary32) fd fs ft s

/-- min.d fd, fs, ft (R284). -/
def execMinD (fd fs ft : Reg) (s : State) : Result := binaryD (fpMin binary64) fd fs ft s

/-- mina.s fd, fs, ft (R285). -/
def execMinaS (fd fs ft : Reg) (s : State) : Result := binaryS (fpMina binary32) fd fs ft s

/-- mina.d fd, fs, ft (R286). -/
def execMinaD (fd fs ft : Reg) (s : State) : Result := binaryD (fpMina binary64) fd fs ft s

/-- max.s fd, fs, ft (R287). -/
def execMaxS (fd fs ft : Reg) (s : State) : Result := binaryS (fpMax binary32) fd fs ft s

/-- max.d fd, fs, ft (R288). -/
def execMaxD (fd fs ft : Reg) (s : State) : Result := binaryD (fpMax binary64) fd fs ft s

/-- maxa.s fd, fs, ft (R289). -/
def execMaxaS (fd fs ft : Reg) (s : State) : Result := binaryS (fpMaxa binary32) fd fs ft s

/-- maxa.d fd, fs, ft (R290). -/
def execMaxaD (fd fs ft : Reg) (s : State) : Result := binaryD (fpMaxa binary64) fd fs ft s

/-- sel.s fd, fs, ft (R291). -/
def execSelS (fd fs ft : Reg) (s : State) : Result := selectS (fun d a b => if d.getLsbD 0 then b else a) fd fs ft s

/-- seleqz.s fd, fs, ft (R292). -/
def execSeleqzS (fd fs ft : Reg) (s : State) : Result := selectS (fun _ a b => if b.getLsbD 0 then 0#32 else a) fd fs ft s

/-- selnez.s fd, fs, ft (R293). -/
def execSelnezS (fd fs ft : Reg) (s : State) : Result := selectS (fun _ a b => if b.getLsbD 0 then a else 0#32) fd fs ft s

/-- sel.d fd, fs, ft (R294). -/
def execSelD (fd fs ft : Reg) (s : State) : Result := selectD (fun d a b => if d.getLsbD 0 then b else a) fd fs ft s

/-- seleqz.d fd, fs, ft (R295). -/
def execSeleqzD (fd fs ft : Reg) (s : State) : Result := selectD (fun _ a b => if b.getLsbD 0 then 0#64 else a) fd fs ft s

/-- selnez.d fd, fs, ft (R296). -/
def execSelnezD (fd fs ft : Reg) (s : State) : Result := selectD (fun _ a b => if b.getLsbD 0 then a else 0#64) fd fs ft s

end Sys2Proof.Machine
end

