-- ==== Sys2Proof/Machine/FpCompare.lean ====
section
/-! DEFINITION. Floating-point comparisons: the meanings of the instructions of 45_fpu_compare.md. In a meaning pc is
addr + 4 (10_state.md R36, R38). -/

namespace Sys2Proof.Machine

/-- cmp.af.s fd, fs, ft (R323). -/
def execCmpAfS (fd fs ft : Reg) (s : State) : Result := compareS 0b00000#5 fd fs ft s

/-- cmp.af.d fd, fs, ft (R324). -/
def execCmpAfD (fd fs ft : Reg) (s : State) : Result := compareD 0b00000#5 fd fs ft s

/-- cmp.un.s fd, fs, ft (R325). -/
def execCmpUnS (fd fs ft : Reg) (s : State) : Result := compareS 0b00001#5 fd fs ft s

/-- cmp.un.d fd, fs, ft (R326). -/
def execCmpUnD (fd fs ft : Reg) (s : State) : Result := compareD 0b00001#5 fd fs ft s

/-- cmp.eq.s fd, fs, ft (R327). -/
def execCmpEqS (fd fs ft : Reg) (s : State) : Result := compareS 0b00010#5 fd fs ft s

/-- cmp.eq.d fd, fs, ft (R328). -/
def execCmpEqD (fd fs ft : Reg) (s : State) : Result := compareD 0b00010#5 fd fs ft s

/-- cmp.ueq.s fd, fs, ft (R329). -/
def execCmpUeqS (fd fs ft : Reg) (s : State) : Result := compareS 0b00011#5 fd fs ft s

/-- cmp.ueq.d fd, fs, ft (R330). -/
def execCmpUeqD (fd fs ft : Reg) (s : State) : Result := compareD 0b00011#5 fd fs ft s

/-- cmp.lt.s fd, fs, ft (R331). -/
def execCmpLtS (fd fs ft : Reg) (s : State) : Result := compareS 0b00100#5 fd fs ft s

/-- cmp.lt.d fd, fs, ft (R332). -/
def execCmpLtD (fd fs ft : Reg) (s : State) : Result := compareD 0b00100#5 fd fs ft s

/-- cmp.ult.s fd, fs, ft (R333). -/
def execCmpUltS (fd fs ft : Reg) (s : State) : Result := compareS 0b00101#5 fd fs ft s

/-- cmp.ult.d fd, fs, ft (R334). -/
def execCmpUltD (fd fs ft : Reg) (s : State) : Result := compareD 0b00101#5 fd fs ft s

/-- cmp.le.s fd, fs, ft (R335). -/
def execCmpLeS (fd fs ft : Reg) (s : State) : Result := compareS 0b00110#5 fd fs ft s

/-- cmp.le.d fd, fs, ft (R336). -/
def execCmpLeD (fd fs ft : Reg) (s : State) : Result := compareD 0b00110#5 fd fs ft s

/-- cmp.ule.s fd, fs, ft (R337). -/
def execCmpUleS (fd fs ft : Reg) (s : State) : Result := compareS 0b00111#5 fd fs ft s

/-- cmp.ule.d fd, fs, ft (R338). -/
def execCmpUleD (fd fs ft : Reg) (s : State) : Result := compareD 0b00111#5 fd fs ft s

/-- cmp.saf.s fd, fs, ft (R339). -/
def execCmpSafS (fd fs ft : Reg) (s : State) : Result := compareS 0b01000#5 fd fs ft s

/-- cmp.saf.d fd, fs, ft (R340). -/
def execCmpSafD (fd fs ft : Reg) (s : State) : Result := compareD 0b01000#5 fd fs ft s

/-- cmp.sun.s fd, fs, ft (R341). -/
def execCmpSunS (fd fs ft : Reg) (s : State) : Result := compareS 0b01001#5 fd fs ft s

/-- cmp.sun.d fd, fs, ft (R342). -/
def execCmpSunD (fd fs ft : Reg) (s : State) : Result := compareD 0b01001#5 fd fs ft s

/-- cmp.seq.s fd, fs, ft (R343). -/
def execCmpSeqS (fd fs ft : Reg) (s : State) : Result := compareS 0b01010#5 fd fs ft s

/-- cmp.seq.d fd, fs, ft (R344). -/
def execCmpSeqD (fd fs ft : Reg) (s : State) : Result := compareD 0b01010#5 fd fs ft s

/-- cmp.sueq.s fd, fs, ft (R345). -/
def execCmpSueqS (fd fs ft : Reg) (s : State) : Result := compareS 0b01011#5 fd fs ft s

/-- cmp.sueq.d fd, fs, ft (R346). -/
def execCmpSueqD (fd fs ft : Reg) (s : State) : Result := compareD 0b01011#5 fd fs ft s

/-- cmp.slt.s fd, fs, ft (R347). -/
def execCmpSltS (fd fs ft : Reg) (s : State) : Result := compareS 0b01100#5 fd fs ft s

/-- cmp.slt.d fd, fs, ft (R348). -/
def execCmpSltD (fd fs ft : Reg) (s : State) : Result := compareD 0b01100#5 fd fs ft s

/-- cmp.sult.s fd, fs, ft (R349). -/
def execCmpSultS (fd fs ft : Reg) (s : State) : Result := compareS 0b01101#5 fd fs ft s

/-- cmp.sult.d fd, fs, ft (R350). -/
def execCmpSultD (fd fs ft : Reg) (s : State) : Result := compareD 0b01101#5 fd fs ft s

/-- cmp.sle.s fd, fs, ft (R351). -/
def execCmpSleS (fd fs ft : Reg) (s : State) : Result := compareS 0b01110#5 fd fs ft s

/-- cmp.sle.d fd, fs, ft (R352). -/
def execCmpSleD (fd fs ft : Reg) (s : State) : Result := compareD 0b01110#5 fd fs ft s

/-- cmp.sule.s fd, fs, ft (R353). -/
def execCmpSuleS (fd fs ft : Reg) (s : State) : Result := compareS 0b01111#5 fd fs ft s

/-- cmp.sule.d fd, fs, ft (R354). -/
def execCmpSuleD (fd fs ft : Reg) (s : State) : Result := compareD 0b01111#5 fd fs ft s

/-- cmp.or.s fd, fs, ft (R355). -/
def execCmpOrS (fd fs ft : Reg) (s : State) : Result := compareS 0b10001#5 fd fs ft s

/-- cmp.or.d fd, fs, ft (R356). -/
def execCmpOrD (fd fs ft : Reg) (s : State) : Result := compareD 0b10001#5 fd fs ft s

/-- cmp.une.s fd, fs, ft (R357). -/
def execCmpUneS (fd fs ft : Reg) (s : State) : Result := compareS 0b10010#5 fd fs ft s

/-- cmp.une.d fd, fs, ft (R358). -/
def execCmpUneD (fd fs ft : Reg) (s : State) : Result := compareD 0b10010#5 fd fs ft s

/-- cmp.ne.s fd, fs, ft (R359). -/
def execCmpNeS (fd fs ft : Reg) (s : State) : Result := compareS 0b10011#5 fd fs ft s

/-- cmp.ne.d fd, fs, ft (R360). -/
def execCmpNeD (fd fs ft : Reg) (s : State) : Result := compareD 0b10011#5 fd fs ft s

/-- cmp.sor.s fd, fs, ft (R361). -/
def execCmpSorS (fd fs ft : Reg) (s : State) : Result := compareS 0b11001#5 fd fs ft s

/-- cmp.sor.d fd, fs, ft (R362). -/
def execCmpSorD (fd fs ft : Reg) (s : State) : Result := compareD 0b11001#5 fd fs ft s

/-- cmp.sune.s fd, fs, ft (R363). -/
def execCmpSuneS (fd fs ft : Reg) (s : State) : Result := compareS 0b11010#5 fd fs ft s

/-- cmp.sune.d fd, fs, ft (R364). -/
def execCmpSuneD (fd fs ft : Reg) (s : State) : Result := compareD 0b11010#5 fd fs ft s

/-- cmp.sne.s fd, fs, ft (R365). -/
def execCmpSneS (fd fs ft : Reg) (s : State) : Result := compareS 0b11011#5 fd fs ft s

/-- cmp.sne.d fd, fs, ft (R366). -/
def execCmpSneD (fd fs ft : Reg) (s : State) : Result := compareD 0b11011#5 fd fs ft s

end Sys2Proof.Machine
end

