-- ==== Sys2Proof/Machine/FpConvert.lean ====
section
/-! DEFINITION. Floating-point conversions and branches: the meanings of the instructions of 46_fpu_convert_branch.md. In a meaning pc is
addr + 4 (10_state.md R36, R38). -/

namespace Sys2Proof.Machine

/-- cvt.s.d fd, fs (R381). -/
def execCvtSD (fd fs : Reg) (s : State) : Result :=
  onPairs (evenReg fs) (.next (putS fd (fpConvert binary64 binary32 (s.patD fs)) s))

/-- cvt.s.w fd, fs (R382). -/
def execCvtSW (fd fs : Reg) (s : State) : Result := .next (putS fd (fpOfInt binary32 (s.getF fs).toInt) s)

/-- cvt.s.l fd, fs (R383). -/
def execCvtSL (fd fs : Reg) (s : State) : Result :=
  onPairs (evenReg fs) (.next (putS fd (fpOfInt binary32 (s.getD fs).toInt) s))

/-- cvt.d.s fd, fs (R384). -/
def execCvtDS (fd fs : Reg) (s : State) : Result :=
  onPairs (evenReg fd) (.next (putD fd (fpConvert binary32 binary64 (s.patS fs)) s))

/-- cvt.d.w fd, fs (R385). -/
def execCvtDW (fd fs : Reg) (s : State) : Result :=
  onPairs (evenReg fd) (.next (putD fd (fpOfInt binary64 (s.getF fs).toInt) s))

/-- cvt.d.l fd, fs (R386). -/
def execCvtDL (fd fs : Reg) (s : State) : Result :=
  onPairs (evenReg fd && evenReg fs) (.next (putD fd (fpOfInt binary64 (s.getD fs).toInt) s))

/-- cvt.w.s fd, fs (R387). -/
def execCvtWS (fd fs : Reg) (s : State) : Result := toWordFromS .nearestEven fd fs s

/-- cvt.w.d fd, fs (R388). -/
def execCvtWD (fd fs : Reg) (s : State) : Result := toWordFromD .nearestEven fd fs s

/-- cvt.l.s fd, fs (R389). -/
def execCvtLS (fd fs : Reg) (s : State) : Result := toLongFromS .nearestEven fd fs s

/-- cvt.l.d fd, fs (R390). -/
def execCvtLD (fd fs : Reg) (s : State) : Result := toLongFromD .nearestEven fd fs s

/-- round.w.s fd, fs (R391). -/
def execRoundWS (fd fs : Reg) (s : State) : Result := toWordFromS .nearestEven fd fs s

/-- round.w.d fd, fs (R392). -/
def execRoundWD (fd fs : Reg) (s : State) : Result := toWordFromD .nearestEven fd fs s

/-- round.l.s fd, fs (R393). -/
def execRoundLS (fd fs : Reg) (s : State) : Result := toLongFromS .nearestEven fd fs s

/-- round.l.d fd, fs (R394). -/
def execRoundLD (fd fs : Reg) (s : State) : Result := toLongFromD .nearestEven fd fs s

/-- trunc.w.s fd, fs (R395). -/
def execTruncWS (fd fs : Reg) (s : State) : Result := toWordFromS .towardZero fd fs s

/-- trunc.w.d fd, fs (R396). -/
def execTruncWD (fd fs : Reg) (s : State) : Result := toWordFromD .towardZero fd fs s

/-- trunc.l.s fd, fs (R397). -/
def execTruncLS (fd fs : Reg) (s : State) : Result := toLongFromS .towardZero fd fs s

/-- trunc.l.d fd, fs (R398). -/
def execTruncLD (fd fs : Reg) (s : State) : Result := toLongFromD .towardZero fd fs s

/-- ceil.w.s fd, fs (R399). -/
def execCeilWS (fd fs : Reg) (s : State) : Result := toWordFromS .up fd fs s

/-- ceil.w.d fd, fs (R400). -/
def execCeilWD (fd fs : Reg) (s : State) : Result := toWordFromD .up fd fs s

/-- ceil.l.s fd, fs (R401). -/
def execCeilLS (fd fs : Reg) (s : State) : Result := toLongFromS .up fd fs s

/-- ceil.l.d fd, fs (R402). -/
def execCeilLD (fd fs : Reg) (s : State) : Result := toLongFromD .up fd fs s

/-- floor.w.s fd, fs (R403). -/
def execFloorWS (fd fs : Reg) (s : State) : Result := toWordFromS .down fd fs s

/-- floor.w.d fd, fs (R404). -/
def execFloorWD (fd fs : Reg) (s : State) : Result := toWordFromD .down fd fs s

/-- floor.l.s fd, fs (R405). -/
def execFloorLS (fd fs : Reg) (s : State) : Result := toLongFromS .down fd fs s

/-- floor.l.d fd, fs (R406). -/
def execFloorLD (fd fs : Reg) (s : State) : Result := toLongFromD .down fd fs s

/-- bc1eqz ft, offset (R407). -/
def execBc1eqz (ft : Reg) (imm : Half) (s : State) : Result := branchIf (!(s.getF ft).getLsbD 0) (s.branchTarget16 imm) s

/-- bc1nez ft, offset (R408). -/
def execBc1nez (ft : Reg) (imm : Half) (s : State) : Result := branchIf ((s.getF ft).getLsbD 0) (s.branchTarget16 imm) s

end Sys2Proof.Machine
end

