-- ==== Sys2Proof/Machine/LoadStore.lean ====
section
/-! DEFINITION. Loads, stores, LL and SC: the meanings of the instructions of 48_load_store_atomic.md. In a meaning pc is
addr + 4 (10_state.md R36, R38). -/

namespace Sys2Proof.Machine

/-- lb rt, offset(base) (R486). -/
def execLb (rt base : Reg) (off : Half) (s : State) : Result :=
  loadByte (s.ea16 base off) s fun v => s.setX rt (v.signExtend 32)

/-- lbu rt, offset(base) (R487). -/
def execLbu (rt base : Reg) (off : Half) (s : State) : Result :=
  loadByte (s.ea16 base off) s fun v => s.setX rt (v.setWidth 32)

/-- lh rt, offset(base) (R488). -/
def execLh (rt base : Reg) (off : Half) (s : State) : Result :=
  loadHalf (s.ea16 base off) s fun v => s.setX rt (v.signExtend 32)

/-- lhu rt, offset(base) (R489). -/
def execLhu (rt base : Reg) (off : Half) (s : State) : Result :=
  loadHalf (s.ea16 base off) s fun v => s.setX rt (v.setWidth 32)

/-- lw rt, offset(base) (R490). -/
def execLw (rt base : Reg) (off : Half) (s : State) : Result := loadWord (s.ea16 base off) s fun v => s.setX rt v

/-- sb rt, offset(base) (R491). -/
def execSb (rt base : Reg) (off : Half) (s : State) : Result := storeByte (s.ea16 base off) ((s.getX rt).extractLsb' 0 8) s

/-- sh rt, offset(base) (R492). -/
def execSh (rt base : Reg) (off : Half) (s : State) : Result := storeHalf (s.ea16 base off) ((s.getX rt).extractLsb' 0 16) s

/-- sw rt, offset(base) (R493). -/
def execSw (rt base : Reg) (off : Half) (s : State) : Result := storeWord (s.ea16 base off) (s.getX rt) s

/-- lwpc rs, offset (R494). -/
def execLwpc (rs : Reg) (imm19 : BitVec 19) (s : State) : Result := loadWord (s.pcRel19 imm19) s fun v => s.setX rs v

/-- lbe rt, offset(base) (R495). -/
def execLbe (rt base : Reg) (off9 : BitVec 9) (s : State) : Result :=
  loadByte (s.ea9 base off9) s fun v => s.setX rt (v.signExtend 32)

/-- lbue rt, offset(base) (R496). -/
def execLbue (rt base : Reg) (off9 : BitVec 9) (s : State) : Result :=
  loadByte (s.ea9 base off9) s fun v => s.setX rt (v.setWidth 32)

/-- lhe rt, offset(base) (R497). -/
def execLhe (rt base : Reg) (off9 : BitVec 9) (s : State) : Result :=
  loadHalf (s.ea9 base off9) s fun v => s.setX rt (v.signExtend 32)

/-- lhue rt, offset(base) (R498). -/
def execLhue (rt base : Reg) (off9 : BitVec 9) (s : State) : Result :=
  loadHalf (s.ea9 base off9) s fun v => s.setX rt (v.setWidth 32)

/-- lwe rt, offset(base) (R499). -/
def execLwe (rt base : Reg) (off9 : BitVec 9) (s : State) : Result := loadWord (s.ea9 base off9) s fun v => s.setX rt v

/-- sbe rt, offset(base) (R500). -/
def execSbe (rt base : Reg) (off9 : BitVec 9) (s : State) : Result :=
  storeByte (s.ea9 base off9) ((s.getX rt).extractLsb' 0 8) s

/-- she rt, offset(base) (R501). -/
def execShe (rt base : Reg) (off9 : BitVec 9) (s : State) : Result :=
  storeHalf (s.ea9 base off9) ((s.getX rt).extractLsb' 0 16) s

/-- swe rt, offset(base) (R502). -/
def execSwe (rt base : Reg) (off9 : BitVec 9) (s : State) : Result := storeWord (s.ea9 base off9) (s.getX rt) s

/-- ll rt, offset(base) (R503). -/
def execLl (rt base : Reg) (off9 : BitVec 9) (s : State) : Result := loadWord (s.ea9 base off9) s fun v => s.setX rt v

/-- sc rt, offset(base) (R504). It always succeeds (R485). -/
def execSc (rt base : Reg) (off9 : BitVec 9) (s : State) : Result := storeWordThenOne (s.ea9 base off9) (s.getX rt) rt s

/-- llwp rt, rd, (base) (R505). rd is written last. -/
def execLlwp (rt rd base : Reg) (s : State) : Result :=
  loadDouble (s.getX base) s fun v => (s.setX rt (v.extractLsb' 0 32)).setX rd (v.extractLsb' 32 32)

/-- scwp rt, rd, (base) (R506). -/
def execScwp (rt rd base : Reg) (s : State) : Result := storeDoubleThenOne (s.getX base) (s.getX rd ++ s.getX rt) rt s

/-- lle rt, offset(base) (R507). -/
def execLle (rt base : Reg) (off9 : BitVec 9) (s : State) : Result := loadWord (s.ea9 base off9) s fun v => s.setX rt v

/-- sce rt, offset(base) (R508). It always succeeds (R484, R485). -/
def execSce (rt base : Reg) (off9 : BitVec 9) (s : State) : Result := storeWordThenOne (s.ea9 base off9) (s.getX rt) rt s

/-- llwpe rt, rd, (base) (R509). rd is written last (R484). -/
def execLlwpe (rt rd base : Reg) (s : State) : Result :=
  loadDouble (s.getX base) s fun v => (s.setX rt (v.extractLsb' 0 32)).setX rd (v.extractLsb' 32 32)

/-- scwpe rt, rd, (base) (R510). -/
def execScwpe (rt rd base : Reg) (s : State) : Result := storeDoubleThenOne (s.getX base) (s.getX rd ++ s.getX rt) rt s

/-- lwc1 ft, offset(base) (R511). -/
def execLwc1 (ft base : Reg) (off : Half) (s : State) : Result := loadWord (s.ea16 base off) s fun v => s.setF ft v

/-- swc1 ft, offset(base) (R512). -/
def execSwc1 (ft base : Reg) (off : Half) (s : State) : Result := storeWord (s.ea16 base off) (s.getF ft) s

/-- ldc1 ft, offset(base) (R513). -/
def execLdc1 (ft base : Reg) (off : Half) (s : State) : Result :=
  onPairs (evenReg ft) (loadDouble (s.ea16 base off) s fun v => s.setD ft v)

/-- sdc1 ft, offset(base) (R514). -/
def execSdc1 (ft base : Reg) (off : Half) (s : State) : Result :=
  onPairs (evenReg ft) (storeDouble (s.ea16 base off) (s.getD ft) s)

end Sys2Proof.Machine
end

