-- ==== Sys2Proof/Machine/MulDiv.lean ====
section
/-! DEFINITION. Multiply, divide and the HI/LO accumulator: the meanings of the instructions of 42_multiply_divide.md. In a meaning pc is
addr + 4 (10_state.md R36, R38). -/

namespace Sys2Proof.Machine

/-- The exact signed product, 64 bits (R167). -/
def productSigned (a b : Word) : DWord := BitVec.ofInt 64 (a.toInt * b.toInt)
/-- The exact unsigned product, 64 bits (R168). -/
def productUnsigned (a b : Word) : DWord := BitVec.ofNat 64 (a.toNat * b.toNat)
/-- The upper half of a 64-bit value. -/
def highWord (v : DWord) : Word := v.extractLsb' 32 32
/-- The lower half of a 64-bit value. -/
def lowWord (v : DWord) : Word := v.extractLsb' 0 32
/-- The signed quotient truncated toward zero; 0x80000000 / -1 wraps to 0x80000000 (R169; D20). -/
def quotSigned (n d : Word) : Word := BitVec.ofInt 32 (n.toInt.tdiv d.toInt)
/-- The signed remainder, with the sign of the dividend (R169). -/
def remSigned (n d : Word) : Word := BitVec.ofInt 32 (n.toInt.tmod d.toInt)
/-- The unsigned quotient (R170). -/
def quotUnsigned (n d : Word) : Word := BitVec.ofNat 32 (n.toNat / d.toNat)
/-- The unsigned remainder (R170). -/
def remUnsigned (n d : Word) : Word := BitVec.ofNat 32 (n.toNat % d.toNat)

/-- A division into LO (quotient) and HI (remainder); by zero, both receive any value (R169, R170, U3). -/
def divideAcc (quot rem : Word → Word → Word) (rs rt : Reg) (s : State) : Result :=
  if s.getX rt = 0#32 then .next ((s.setLo s.freeWord).setHi s.draw.freeWord).draw.draw
  else .next ((s.setLo (quot (s.getX rs) (s.getX rt))).setHi (rem (s.getX rs) (s.getX rt)))

/-- A division into a register; by zero, it receives any value (R183 to R186, U3). -/
def divideReg (op : Word → Word → Word) (rd rs rt : Reg) (s : State) : Result :=
  if s.getX rt = 0#32 then .next (s.setX rd s.freeWord).draw
  else .next (s.setX rd (op (s.getX rs) (s.getX rt)))

/-- mult rs, rt (R167). -/
def execMult (rs rt : Reg) (s : State) : Result := .next (s.setAcc (productSigned (s.getX rs) (s.getX rt)))

/-- multu rs, rt (R168). -/
def execMultu (rs rt : Reg) (s : State) : Result := .next (s.setAcc (productUnsigned (s.getX rs) (s.getX rt)))

/-- div rs, rt (R169). -/
def execDiv (rs rt : Reg) (s : State) : Result := divideAcc quotSigned remSigned rs rt s

/-- divu rs, rt (R170). -/
def execDivu (rs rt : Reg) (s : State) : Result := divideAcc quotUnsigned remUnsigned rs rt s

/-- mfhi rd (R171). -/
def execMfhi (rd : Reg) (s : State) : Result := .next (s.setX rd s.hi)

/-- mflo rd (R172). -/
def execMflo (rd : Reg) (s : State) : Result := .next (s.setX rd s.lo)

/-- mthi rs (R173). -/
def execMthi (rs : Reg) (s : State) : Result := .next (s.setHi (s.getX rs))

/-- mtlo rs (R174). -/
def execMtlo (rs : Reg) (s : State) : Result := .next (s.setLo (s.getX rs))

/-- madd rs, rt (R175). -/
def execMadd (rs rt : Reg) (s : State) : Result := .next (s.setAcc (s.getAcc + productSigned (s.getX rs) (s.getX rt)))

/-- maddu rs, rt (R176). -/
def execMaddu (rs rt : Reg) (s : State) : Result := .next (s.setAcc (s.getAcc + productUnsigned (s.getX rs) (s.getX rt)))

/-- msub rs, rt (R177). -/
def execMsub (rs rt : Reg) (s : State) : Result := .next (s.setAcc (s.getAcc - productSigned (s.getX rs) (s.getX rt)))

/-- msubu rs, rt (R178). -/
def execMsubu (rs rt : Reg) (s : State) : Result := .next (s.setAcc (s.getAcc - productUnsigned (s.getX rs) (s.getX rt)))

/-- mul rd, rs, rt (R179). -/
def execMul (rd rs rt : Reg) (s : State) : Result := .next (s.setX rd (lowWord (productSigned (s.getX rs) (s.getX rt))))

/-- muh rd, rs, rt (R180). -/
def execMuh (rd rs rt : Reg) (s : State) : Result := .next (s.setX rd (highWord (productSigned (s.getX rs) (s.getX rt))))

/-- mulu rd, rs, rt (R181). -/
def execMulu (rd rs rt : Reg) (s : State) : Result := .next (s.setX rd (lowWord (productUnsigned (s.getX rs) (s.getX rt))))

/-- muhu rd, rs, rt (R182). -/
def execMuhu (rd rs rt : Reg) (s : State) : Result := .next (s.setX rd (highWord (productUnsigned (s.getX rs) (s.getX rt))))

/-- div rd, rs, rt (R183). -/
def execDivR6 (rd rs rt : Reg) (s : State) : Result := divideReg quotSigned rd rs rt s

/-- mod rd, rs, rt (R184). -/
def execMod (rd rs rt : Reg) (s : State) : Result := divideReg remSigned rd rs rt s

/-- divu rd, rs, rt (R185). -/
def execDivuR6 (rd rs rt : Reg) (s : State) : Result := divideReg quotUnsigned rd rs rt s

/-- modu rd, rs, rt (R186). -/
def execModu (rd rs rt : Reg) (s : State) : Result := divideReg remUnsigned rd rs rt s

end Sys2Proof.Machine
end

