-- ==== Sys2Proof/Machine/Shift.lean ====
section
/-! DEFINITION. Shifts and rotates: the meanings of the instructions of 41_shift_rotate.md. In a meaning pc is
addr + 4 (10_state.md R36, R38). -/

namespace Sys2Proof.Machine

/-- The shift amount of the `*v` forms, x[rs] & 0x1f (R150). -/
def State.shiftAmount (s : State) (rs : Reg) : Nat := (s.getX rs &&& 0x1F#32).toNat

/-- Rotation to the right by n places, 0 <= n <= 31 (R157, R158). -/
def rotateWord (v : Word) (n : Nat) : Word := if n = 0 then v else (v >>> n) ||| (v <<< (32 - n))

/-- sll rd, rt, sa (R151). -/
def execSll (rd rt sa : Reg) (s : State) : Result := .next (s.setX rd (s.getX rt <<< sa.toNat))

/-- srl rd, rt, sa (R152). -/
def execSrl (rd rt sa : Reg) (s : State) : Result := .next (s.setX rd (s.getX rt >>> sa.toNat))

/-- sra rd, rt, sa (R153). -/
def execSra (rd rt sa : Reg) (s : State) : Result := .next (s.setX rd ((s.getX rt).sshiftRight sa.toNat))

/-- sllv rd, rt, rs (R154). -/
def execSllv (rd rt rs : Reg) (s : State) : Result := .next (s.setX rd (s.getX rt <<< s.shiftAmount rs))

/-- srlv rd, rt, rs (R155). -/
def execSrlv (rd rt rs : Reg) (s : State) : Result := .next (s.setX rd (s.getX rt >>> s.shiftAmount rs))

/-- srav rd, rt, rs (R156). -/
def execSrav (rd rt rs : Reg) (s : State) : Result := .next (s.setX rd ((s.getX rt).sshiftRight (s.shiftAmount rs)))

/-- rotr rd, rt, sa (R157). -/
def execRotr (rd rt sa : Reg) (s : State) : Result := .next (s.setX rd (rotateWord (s.getX rt) sa.toNat))

/-- rotrv rd, rt, rs (R158). -/
def execRotrv (rd rt rs : Reg) (s : State) : Result := .next (s.setX rd (rotateWord (s.getX rt) (s.shiftAmount rs)))

end Sys2Proof.Machine
end

