-- ==== Sys2Proof/Machine/System.lean ====
section
/-! DEFINITION. Traps, fatal conditions and no-operations: the meanings of the instructions of 47_trap_fatal_noop.md. In a meaning pc is
addr + 4 (10_state.md R36, R38). -/

namespace Sys2Proof.Machine

/-- "accepted by the decoder, handler performs no state change" (R432): no register is written, not even the one that is a
destination in the architecture (R433), and pc keeps addr + 4. -/
def noOperation (s : State) : Result := .next s

/-- tge rs, rt (R422). -/
def execTge (rs rt : Reg) (_code10 : BitVec 10) (s : State) : Result := trapIf (!ltSigned (s.getX rs) (s.getX rt)) s

/-- tgeu rs, rt (R423). -/
def execTgeu (rs rt : Reg) (_code10 : BitVec 10) (s : State) : Result := trapIf (!ltUnsigned (s.getX rs) (s.getX rt)) s

/-- tlt rs, rt (R424). -/
def execTlt (rs rt : Reg) (_code10 : BitVec 10) (s : State) : Result := trapIf (ltSigned (s.getX rs) (s.getX rt)) s

/-- tltu rs, rt (R425). -/
def execTltu (rs rt : Reg) (_code10 : BitVec 10) (s : State) : Result := trapIf (ltUnsigned (s.getX rs) (s.getX rt)) s

/-- teq rs, rt (R426). -/
def execTeq (rs rt : Reg) (_code10 : BitVec 10) (s : State) : Result := trapIf (s.getX rs == s.getX rt) s

/-- tne rs, rt (R427). -/
def execTne (rs rt : Reg) (_code10 : BitVec 10) (s : State) : Result := trapIf (s.getX rs != s.getX rt) s

/-- break (R428). -/
def execBrk (_code20 : BitVec 20) (s : State) : Result := .next (s.raise .breakpoint)

/-- syscall (R429). -/
def execSyscall (_code20 : BitVec 20) (s : State) : Result := .next (s.raise .syscall)

/-- sdbbp (R430). -/
def execSdbbp (_code20 : BitVec 20) (s : State) : Result := .next (s.raise .debugBreakpoint)

/-- sigrie code (R431). -/
def execSigrie (_rs : Reg) (_imm : Half) (s : State) : Result := .next (s.raise .reservedInstruction)

/-- sync stype (R435). -/
def execSync (_stype : Reg) (s : State) : Result := noOperation s

/-- synci offset(base) (R436). -/
def execSynci (_rs : Reg) (_imm : Half) (s : State) : Result := noOperation s

/-- pref hint, offset(base) (R437). -/
def execPref (_hint _base : Reg) (_off9 : BitVec 9) (s : State) : Result := noOperation s

/-- prefe hint, offset(base) (R438). -/
def execPrefe (_hint _base : Reg) (_off9 : BitVec 9) (s : State) : Result := noOperation s

/-- cache op, offset(base) (R439). -/
def execCache (_hint _base : Reg) (_off9 : BitVec 9) (s : State) : Result := noOperation s

/-- cachee op, offset(base) (R440). -/
def execCachee (_hint _base : Reg) (_off9 : BitVec 9) (s : State) : Result := noOperation s

/-- ginvi rs (R441). -/
def execGinvi (_rs : Reg) (_gtype : BitVec 2) (s : State) : Result := noOperation s

/-- ginvt rs, type (R442). -/
def execGinvt (_rs : Reg) (_gtype : BitVec 2) (s : State) : Result := noOperation s

/-- rdhwr rt, rd, sel (R443). -/
def execRdhwr (_rt _rd : Reg) (s : State) : Result := noOperation s

/-- eret (R444). -/
def execEret (s : State) : Result := noOperation s

/-- eretnc (R445). -/
def execEretnc (s : State) : Result := noOperation s

/-- deret (R446). -/
def execDeret (s : State) : Result := noOperation s

/-- di rt (R447). -/
def execDi (_rt : Reg) (s : State) : Result := noOperation s

/-- ei rt (R448). -/
def execEi (_rt : Reg) (s : State) : Result := noOperation s

/-- dvp rt (R449). -/
def execDvp (_rt : Reg) (s : State) : Result := noOperation s

/-- evp rt (R450). -/
def execEvp (_rt : Reg) (s : State) : Result := noOperation s

/-- wait (R451). -/
def execWait (s : State) : Result := noOperation s

/-- tlbr (R452). -/
def execTlbr (s : State) : Result := noOperation s

/-- tlbwi (R453). -/
def execTlbwi (s : State) : Result := noOperation s

/-- tlbinv (R454). -/
def execTlbinv (s : State) : Result := noOperation s

/-- tlbinvf (R455). -/
def execTlbinvf (s : State) : Result := noOperation s

/-- tlbwr (R456). -/
def execTlbwr (s : State) : Result := noOperation s

/-- tlbp (R457). -/
def execTlbp (s : State) : Result := noOperation s

end Sys2Proof.Machine
end

