-- ==== Sys2Proof/Machine/Dispatch.lean ====
section
/-! DEFINITION. The meaning of every instruction (10_state.md R38): one arm for each constructor of Instr. -/

namespace Sys2Proof.Machine

def exec (i : Instr) (s : State) : Host.Outcome State Fault Refusal :=
  match i with
  -- Integer arithmetic, logic, selection, counts, bytes and bit fields (40_arithmetic_logic.md)
  | .add rd rs rt => Sys2Proof.Machine.execAdd rd rs rt s
  | .addu rd rs rt => Sys2Proof.Machine.execAddu rd rs rt s
  | .sub rd rs rt => Sys2Proof.Machine.execSub rd rs rt s
  | .subu rd rs rt => Sys2Proof.Machine.execSubu rd rs rt s
  | .addiu rt rs imm => Sys2Proof.Machine.execAddiu rt rs imm s
  | .and rd rs rt => Sys2Proof.Machine.execAnd rd rs rt s
  | .or rd rs rt => Sys2Proof.Machine.execOr rd rs rt s
  | .xor rd rs rt => Sys2Proof.Machine.execXor rd rs rt s
  | .nor rd rs rt => Sys2Proof.Machine.execNor rd rs rt s
  | .andi rt rs imm => Sys2Proof.Machine.execAndi rt rs imm s
  | .ori rt rs imm => Sys2Proof.Machine.execOri rt rs imm s
  | .xori rt rs imm => Sys2Proof.Machine.execXori rt rs imm s
  | .slt rd rs rt => Sys2Proof.Machine.execSlt rd rs rt s
  | .sltu rd rs rt => Sys2Proof.Machine.execSltu rd rs rt s
  | .slti rt rs imm => Sys2Proof.Machine.execSlti rt rs imm s
  | .sltiu rt rs imm => Sys2Proof.Machine.execSltiu rt rs imm s
  | .lui rt imm => Sys2Proof.Machine.execLui rt imm s
  | .aui rt rs imm => Sys2Proof.Machine.execAui rt rs imm s
  | .seleqz rd rs rt => Sys2Proof.Machine.execSeleqz rd rs rt s
  | .selnez rd rs rt => Sys2Proof.Machine.execSelnez rd rs rt s
  | .clz rd rs => Sys2Proof.Machine.execClz rd rs s
  | .clo rd rs => Sys2Proof.Machine.execClo rd rs s
  | .seb rd rt => Sys2Proof.Machine.execSeb rd rt s
  | .seh rd rt => Sys2Proof.Machine.execSeh rd rt s
  | .wsbh rd rt => Sys2Proof.Machine.execWsbh rd rt s
  | .bitswap rd rt => Sys2Proof.Machine.execBitswap rd rt s
  | .align rd rs rt bp => Sys2Proof.Machine.execAlign rd rs rt bp s
  | .ext rt rs msb lsb => Sys2Proof.Machine.execExt rt rs msb lsb s
  | .ins rt rs msb lsb => Sys2Proof.Machine.execIns rt rs msb lsb s
  | .lsa rd rs rt sa2 => Sys2Proof.Machine.execLsa rd rs rt sa2 s
  | .addiupc rs imm19 => Sys2Proof.Machine.execAddiupc rs imm19 s
  | .auipc rs imm => Sys2Proof.Machine.execAuipc rs imm s
  | .aluipc rs imm => Sys2Proof.Machine.execAluipc rs imm s
  -- Shifts and rotates (41_shift_rotate.md)
  | .sll rd rt sa => Sys2Proof.Machine.execSll rd rt sa s
  | .srl rd rt sa => Sys2Proof.Machine.execSrl rd rt sa s
  | .sra rd rt sa => Sys2Proof.Machine.execSra rd rt sa s
  | .sllv rd rt rs => Sys2Proof.Machine.execSllv rd rt rs s
  | .srlv rd rt rs => Sys2Proof.Machine.execSrlv rd rt rs s
  | .srav rd rt rs => Sys2Proof.Machine.execSrav rd rt rs s
  | .rotr rd rt sa => Sys2Proof.Machine.execRotr rd rt sa s
  | .rotrv rd rt rs => Sys2Proof.Machine.execRotrv rd rt rs s
  -- Multiply, divide and the HI/LO accumulator (42_multiply_divide.md)
  | .mult rs rt => Sys2Proof.Machine.execMult rs rt s
  | .multu rs rt => Sys2Proof.Machine.execMultu rs rt s
  | .div rs rt => Sys2Proof.Machine.execDiv rs rt s
  | .divu rs rt => Sys2Proof.Machine.execDivu rs rt s
  | .mfhi rd => Sys2Proof.Machine.execMfhi rd s
  | .mflo rd => Sys2Proof.Machine.execMflo rd s
  | .mthi rs => Sys2Proof.Machine.execMthi rs s
  | .mtlo rs => Sys2Proof.Machine.execMtlo rs s
  | .madd rs rt => Sys2Proof.Machine.execMadd rs rt s
  | .maddu rs rt => Sys2Proof.Machine.execMaddu rs rt s
  | .msub rs rt => Sys2Proof.Machine.execMsub rs rt s
  | .msubu rs rt => Sys2Proof.Machine.execMsubu rs rt s
  | .mul rd rs rt => Sys2Proof.Machine.execMul rd rs rt s
  | .muh rd rs rt => Sys2Proof.Machine.execMuh rd rs rt s
  | .mulu rd rs rt => Sys2Proof.Machine.execMulu rd rs rt s
  | .muhu rd rs rt => Sys2Proof.Machine.execMuhu rd rs rt s
  | .divR6 rd rs rt => Sys2Proof.Machine.execDivR6 rd rs rt s
  | .mod rd rs rt => Sys2Proof.Machine.execMod rd rs rt s
  | .divuR6 rd rs rt => Sys2Proof.Machine.execDivuR6 rd rs rt s
  | .modu rd rs rt => Sys2Proof.Machine.execModu rd rs rt s
  -- Branches and jumps (43_branch_jump.md)
  | .j index => Sys2Proof.Machine.execJ index s
  | .jal index => Sys2Proof.Machine.execJal index s
  | .jr rs => Sys2Proof.Machine.execJr rs s
  | .jalr rd rs => Sys2Proof.Machine.execJalr rd rs s
  | .beq rs rt imm => Sys2Proof.Machine.execBeq rs rt imm s
  | .bne rs rt imm => Sys2Proof.Machine.execBne rs rt imm s
  | .blez rs imm => Sys2Proof.Machine.execBlez rs imm s
  | .bgtz rs imm => Sys2Proof.Machine.execBgtz rs imm s
  | .bltz rs imm => Sys2Proof.Machine.execBltz rs imm s
  | .bgez rs imm => Sys2Proof.Machine.execBgez rs imm s
  | .bltzal rs imm => Sys2Proof.Machine.execBltzal rs imm s
  | .nal imm => Sys2Proof.Machine.execNal imm s
  | .bgezal rs imm => Sys2Proof.Machine.execBgezal rs imm s
  | .bal imm => Sys2Proof.Machine.execBal imm s
  | .bc off26 => Sys2Proof.Machine.execBc off26 s
  | .balc off26 => Sys2Proof.Machine.execBalc off26 s
  | .beqc rs rt imm => Sys2Proof.Machine.execBeqc rs rt imm s
  | .bnec rs rt imm => Sys2Proof.Machine.execBnec rs rt imm s
  | .bltc rs rt imm => Sys2Proof.Machine.execBltc rs rt imm s
  | .bgec rs rt imm => Sys2Proof.Machine.execBgec rs rt imm s
  | .bltuc rs rt imm => Sys2Proof.Machine.execBltuc rs rt imm s
  | .bgeuc rs rt imm => Sys2Proof.Machine.execBgeuc rs rt imm s
  | .blezc rt imm => Sys2Proof.Machine.execBlezc rt imm s
  | .bgezc rt imm => Sys2Proof.Machine.execBgezc rt imm s
  | .bgtzc rt imm => Sys2Proof.Machine.execBgtzc rt imm s
  | .bltzc rt imm => Sys2Proof.Machine.execBltzc rt imm s
  | .beqzc rs imm => Sys2Proof.Machine.execBeqzc rs imm s
  | .bnezc rs imm => Sys2Proof.Machine.execBnezc rs imm s
  | .bovc rs rt imm => Sys2Proof.Machine.execBovc rs rt imm s
  | .bnvc rs rt imm => Sys2Proof.Machine.execBnvc rs rt imm s
  | .blezalc rt imm => Sys2Proof.Machine.execBlezalc rt imm s
  | .bgezalc rt imm => Sys2Proof.Machine.execBgezalc rt imm s
  | .bgtzalc rt imm => Sys2Proof.Machine.execBgtzalc rt imm s
  | .bltzalc rt imm => Sys2Proof.Machine.execBltzalc rt imm s
  | .beqzalc rt imm => Sys2Proof.Machine.execBeqzalc rt imm s
  | .bnezalc rt imm => Sys2Proof.Machine.execBnezalc rt imm s
  | .jic rt imm => Sys2Proof.Machine.execJic rt imm s
  | .jialc rt imm => Sys2Proof.Machine.execJialc rt imm s
  -- Floating-point arithmetic, selection, minimum, maximum, class (44_fpu_arithmetic.md)
  | .addS fd fs ft => Sys2Proof.Machine.execAddS fd fs ft s
  | .addD fd fs ft => Sys2Proof.Machine.execAddD fd fs ft s
  | .subS fd fs ft => Sys2Proof.Machine.execSubS fd fs ft s
  | .subD fd fs ft => Sys2Proof.Machine.execSubD fd fs ft s
  | .mulS fd fs ft => Sys2Proof.Machine.execMulS fd fs ft s
  | .mulD fd fs ft => Sys2Proof.Machine.execMulD fd fs ft s
  | .divS fd fs ft => Sys2Proof.Machine.execDivS fd fs ft s
  | .divD fd fs ft => Sys2Proof.Machine.execDivD fd fs ft s
  | .sqrtS fd fs => Sys2Proof.Machine.execSqrtS fd fs s
  | .sqrtD fd fs => Sys2Proof.Machine.execSqrtD fd fs s
  | .absS fd fs => Sys2Proof.Machine.execAbsS fd fs s
  | .absD fd fs => Sys2Proof.Machine.execAbsD fd fs s
  | .movS fd fs => Sys2Proof.Machine.execMovS fd fs s
  | .movD fd fs => Sys2Proof.Machine.execMovD fd fs s
  | .negS fd fs => Sys2Proof.Machine.execNegS fd fs s
  | .negD fd fs => Sys2Proof.Machine.execNegD fd fs s
  | .recipS fd fs => Sys2Proof.Machine.execRecipS fd fs s
  | .recipD fd fs => Sys2Proof.Machine.execRecipD fd fs s
  | .rsqrtS fd fs => Sys2Proof.Machine.execRsqrtS fd fs s
  | .rsqrtD fd fs => Sys2Proof.Machine.execRsqrtD fd fs s
  | .maddfS fd fs ft => Sys2Proof.Machine.execMaddfS fd fs ft s
  | .maddfD fd fs ft => Sys2Proof.Machine.execMaddfD fd fs ft s
  | .msubfS fd fs ft => Sys2Proof.Machine.execMsubfS fd fs ft s
  | .msubfD fd fs ft => Sys2Proof.Machine.execMsubfD fd fs ft s
  | .rintS fd fs => Sys2Proof.Machine.execRintS fd fs s
  | .rintD fd fs => Sys2Proof.Machine.execRintD fd fs s
  | .classS fd fs => Sys2Proof.Machine.execClassS fd fs s
  | .classD fd fs => Sys2Proof.Machine.execClassD fd fs s
  | .minS fd fs ft => Sys2Proof.Machine.execMinS fd fs ft s
  | .minD fd fs ft => Sys2Proof.Machine.execMinD fd fs ft s
  | .minaS fd fs ft => Sys2Proof.Machine.execMinaS fd fs ft s
  | .minaD fd fs ft => Sys2Proof.Machine.execMinaD fd fs ft s
  | .maxS fd fs ft => Sys2Proof.Machine.execMaxS fd fs ft s
  | .maxD fd fs ft => Sys2Proof.Machine.execMaxD fd fs ft s
  | .maxaS fd fs ft => Sys2Proof.Machine.execMaxaS fd fs ft s
  | .maxaD fd fs ft => Sys2Proof.Machine.execMaxaD fd fs ft s
  | .selS fd fs ft => Sys2Proof.Machine.execSelS fd fs ft s
  | .seleqzS fd fs ft => Sys2Proof.Machine.execSeleqzS fd fs ft s
  | .selnezS fd fs ft => Sys2Proof.Machine.execSelnezS fd fs ft s
  | .selD fd fs ft => Sys2Proof.Machine.execSelD fd fs ft s
  | .seleqzD fd fs ft => Sys2Proof.Machine.execSeleqzD fd fs ft s
  | .selnezD fd fs ft => Sys2Proof.Machine.execSelnezD fd fs ft s
  -- Floating-point comparisons (45_fpu_compare.md)
  | .cmpAfS fd fs ft => Sys2Proof.Machine.execCmpAfS fd fs ft s
  | .cmpAfD fd fs ft => Sys2Proof.Machine.execCmpAfD fd fs ft s
  | .cmpUnS fd fs ft => Sys2Proof.Machine.execCmpUnS fd fs ft s
  | .cmpUnD fd fs ft => Sys2Proof.Machine.execCmpUnD fd fs ft s
  | .cmpEqS fd fs ft => Sys2Proof.Machine.execCmpEqS fd fs ft s
  | .cmpEqD fd fs ft => Sys2Proof.Machine.execCmpEqD fd fs ft s
  | .cmpUeqS fd fs ft => Sys2Proof.Machine.execCmpUeqS fd fs ft s
  | .cmpUeqD fd fs ft => Sys2Proof.Machine.execCmpUeqD fd fs ft s
  | .cmpLtS fd fs ft => Sys2Proof.Machine.execCmpLtS fd fs ft s
  | .cmpLtD fd fs ft => Sys2Proof.Machine.execCmpLtD fd fs ft s
  | .cmpUltS fd fs ft => Sys2Proof.Machine.execCmpUltS fd fs ft s
  | .cmpUltD fd fs ft => Sys2Proof.Machine.execCmpUltD fd fs ft s
  | .cmpLeS fd fs ft => Sys2Proof.Machine.execCmpLeS fd fs ft s
  | .cmpLeD fd fs ft => Sys2Proof.Machine.execCmpLeD fd fs ft s
  | .cmpUleS fd fs ft => Sys2Proof.Machine.execCmpUleS fd fs ft s
  | .cmpUleD fd fs ft => Sys2Proof.Machine.execCmpUleD fd fs ft s
  | .cmpSafS fd fs ft => Sys2Proof.Machine.execCmpSafS fd fs ft s
  | .cmpSafD fd fs ft => Sys2Proof.Machine.execCmpSafD fd fs ft s
  | .cmpSunS fd fs ft => Sys2Proof.Machine.execCmpSunS fd fs ft s
  | .cmpSunD fd fs ft => Sys2Proof.Machine.execCmpSunD fd fs ft s
  | .cmpSeqS fd fs ft => Sys2Proof.Machine.execCmpSeqS fd fs ft s
  | .cmpSeqD fd fs ft => Sys2Proof.Machine.execCmpSeqD fd fs ft s
  | .cmpSueqS fd fs ft => Sys2Proof.Machine.execCmpSueqS fd fs ft s
  | .cmpSueqD fd fs ft => Sys2Proof.Machine.execCmpSueqD fd fs ft s
  | .cmpSltS fd fs ft => Sys2Proof.Machine.execCmpSltS fd fs ft s
  | .cmpSltD fd fs ft => Sys2Proof.Machine.execCmpSltD fd fs ft s
  | .cmpSultS fd fs ft => Sys2Proof.Machine.execCmpSultS fd fs ft s
  | .cmpSultD fd fs ft => Sys2Proof.Machine.execCmpSultD fd fs ft s
  | .cmpSleS fd fs ft => Sys2Proof.Machine.execCmpSleS fd fs ft s
  | .cmpSleD fd fs ft => Sys2Proof.Machine.execCmpSleD fd fs ft s
  | .cmpSuleS fd fs ft => Sys2Proof.Machine.execCmpSuleS fd fs ft s
  | .cmpSuleD fd fs ft => Sys2Proof.Machine.execCmpSuleD fd fs ft s
  | .cmpOrS fd fs ft => Sys2Proof.Machine.execCmpOrS fd fs ft s
  | .cmpOrD fd fs ft => Sys2Proof.Machine.execCmpOrD fd fs ft s
  | .cmpUneS fd fs ft => Sys2Proof.Machine.execCmpUneS fd fs ft s
  | .cmpUneD fd fs ft => Sys2Proof.Machine.execCmpUneD fd fs ft s
  | .cmpNeS fd fs ft => Sys2Proof.Machine.execCmpNeS fd fs ft s
  | .cmpNeD fd fs ft => Sys2Proof.Machine.execCmpNeD fd fs ft s
  | .cmpSorS fd fs ft => Sys2Proof.Machine.execCmpSorS fd fs ft s
  | .cmpSorD fd fs ft => Sys2Proof.Machine.execCmpSorD fd fs ft s
  | .cmpSuneS fd fs ft => Sys2Proof.Machine.execCmpSuneS fd fs ft s
  | .cmpSuneD fd fs ft => Sys2Proof.Machine.execCmpSuneD fd fs ft s
  | .cmpSneS fd fs ft => Sys2Proof.Machine.execCmpSneS fd fs ft s
  | .cmpSneD fd fs ft => Sys2Proof.Machine.execCmpSneD fd fs ft s
  -- Floating-point conversions and branches (46_fpu_convert_branch.md)
  | .cvtSD fd fs => Sys2Proof.Machine.execCvtSD fd fs s
  | .cvtSW fd fs => Sys2Proof.Machine.execCvtSW fd fs s
  | .cvtSL fd fs => Sys2Proof.Machine.execCvtSL fd fs s
  | .cvtDS fd fs => Sys2Proof.Machine.execCvtDS fd fs s
  | .cvtDW fd fs => Sys2Proof.Machine.execCvtDW fd fs s
  | .cvtDL fd fs => Sys2Proof.Machine.execCvtDL fd fs s
  | .cvtWS fd fs => Sys2Proof.Machine.execCvtWS fd fs s
  | .cvtWD fd fs => Sys2Proof.Machine.execCvtWD fd fs s
  | .cvtLS fd fs => Sys2Proof.Machine.execCvtLS fd fs s
  | .cvtLD fd fs => Sys2Proof.Machine.execCvtLD fd fs s
  | .roundWS fd fs => Sys2Proof.Machine.execRoundWS fd fs s
  | .roundWD fd fs => Sys2Proof.Machine.execRoundWD fd fs s
  | .roundLS fd fs => Sys2Proof.Machine.execRoundLS fd fs s
  | .roundLD fd fs => Sys2Proof.Machine.execRoundLD fd fs s
  | .truncWS fd fs => Sys2Proof.Machine.execTruncWS fd fs s
  | .truncWD fd fs => Sys2Proof.Machine.execTruncWD fd fs s
  | .truncLS fd fs => Sys2Proof.Machine.execTruncLS fd fs s
  | .truncLD fd fs => Sys2Proof.Machine.execTruncLD fd fs s
  | .ceilWS fd fs => Sys2Proof.Machine.execCeilWS fd fs s
  | .ceilWD fd fs => Sys2Proof.Machine.execCeilWD fd fs s
  | .ceilLS fd fs => Sys2Proof.Machine.execCeilLS fd fs s
  | .ceilLD fd fs => Sys2Proof.Machine.execCeilLD fd fs s
  | .floorWS fd fs => Sys2Proof.Machine.execFloorWS fd fs s
  | .floorWD fd fs => Sys2Proof.Machine.execFloorWD fd fs s
  | .floorLS fd fs => Sys2Proof.Machine.execFloorLS fd fs s
  | .floorLD fd fs => Sys2Proof.Machine.execFloorLD fd fs s
  | .bc1eqz ft imm => Sys2Proof.Machine.execBc1eqz ft imm s
  | .bc1nez ft imm => Sys2Proof.Machine.execBc1nez ft imm s
  -- Traps, fatal conditions and no-operations (47_trap_fatal_noop.md)
  | .tge rs rt code10 => Sys2Proof.Machine.execTge rs rt code10 s
  | .tgeu rs rt code10 => Sys2Proof.Machine.execTgeu rs rt code10 s
  | .tlt rs rt code10 => Sys2Proof.Machine.execTlt rs rt code10 s
  | .tltu rs rt code10 => Sys2Proof.Machine.execTltu rs rt code10 s
  | .teq rs rt code10 => Sys2Proof.Machine.execTeq rs rt code10 s
  | .tne rs rt code10 => Sys2Proof.Machine.execTne rs rt code10 s
  | .brk code20 => Sys2Proof.Machine.execBrk code20 s
  | .syscall code20 => Sys2Proof.Machine.execSyscall code20 s
  | .sdbbp code20 => Sys2Proof.Machine.execSdbbp code20 s
  | .sigrie rs imm => Sys2Proof.Machine.execSigrie rs imm s
  | .sync stype => Sys2Proof.Machine.execSync stype s
  | .synci rs imm => Sys2Proof.Machine.execSynci rs imm s
  | .pref hint base off9 => Sys2Proof.Machine.execPref hint base off9 s
  | .prefe hint base off9 => Sys2Proof.Machine.execPrefe hint base off9 s
  | .cache hint base off9 => Sys2Proof.Machine.execCache hint base off9 s
  | .cachee hint base off9 => Sys2Proof.Machine.execCachee hint base off9 s
  | .ginvi rs gtype => Sys2Proof.Machine.execGinvi rs gtype s
  | .ginvt rs gtype => Sys2Proof.Machine.execGinvt rs gtype s
  | .rdhwr rt rd => Sys2Proof.Machine.execRdhwr rt rd s
  | .eret => Sys2Proof.Machine.execEret s
  | .eretnc => Sys2Proof.Machine.execEretnc s
  | .deret => Sys2Proof.Machine.execDeret s
  | .di rt => Sys2Proof.Machine.execDi rt s
  | .ei rt => Sys2Proof.Machine.execEi rt s
  | .dvp rt => Sys2Proof.Machine.execDvp rt s
  | .evp rt => Sys2Proof.Machine.execEvp rt s
  | .wait => Sys2Proof.Machine.execWait s
  | .tlbr => Sys2Proof.Machine.execTlbr s
  | .tlbwi => Sys2Proof.Machine.execTlbwi s
  | .tlbinv => Sys2Proof.Machine.execTlbinv s
  | .tlbinvf => Sys2Proof.Machine.execTlbinvf s
  | .tlbwr => Sys2Proof.Machine.execTlbwr s
  | .tlbp => Sys2Proof.Machine.execTlbp s
  -- Loads, stores, LL and SC (48_load_store_atomic.md)
  | .lb rt base off => Sys2Proof.Machine.execLb rt base off s
  | .lbu rt base off => Sys2Proof.Machine.execLbu rt base off s
  | .lh rt base off => Sys2Proof.Machine.execLh rt base off s
  | .lhu rt base off => Sys2Proof.Machine.execLhu rt base off s
  | .lw rt base off => Sys2Proof.Machine.execLw rt base off s
  | .sb rt base off => Sys2Proof.Machine.execSb rt base off s
  | .sh rt base off => Sys2Proof.Machine.execSh rt base off s
  | .sw rt base off => Sys2Proof.Machine.execSw rt base off s
  | .lwpc rs imm19 => Sys2Proof.Machine.execLwpc rs imm19 s
  | .lbe rt base off9 => Sys2Proof.Machine.execLbe rt base off9 s
  | .lbue rt base off9 => Sys2Proof.Machine.execLbue rt base off9 s
  | .lhe rt base off9 => Sys2Proof.Machine.execLhe rt base off9 s
  | .lhue rt base off9 => Sys2Proof.Machine.execLhue rt base off9 s
  | .lwe rt base off9 => Sys2Proof.Machine.execLwe rt base off9 s
  | .sbe rt base off9 => Sys2Proof.Machine.execSbe rt base off9 s
  | .she rt base off9 => Sys2Proof.Machine.execShe rt base off9 s
  | .swe rt base off9 => Sys2Proof.Machine.execSwe rt base off9 s
  | .ll rt base off9 => Sys2Proof.Machine.execLl rt base off9 s
  | .sc rt base off9 => Sys2Proof.Machine.execSc rt base off9 s
  | .llwp rt rd base => Sys2Proof.Machine.execLlwp rt rd base s
  | .scwp rt rd base => Sys2Proof.Machine.execScwp rt rd base s
  | .lle rt base off9 => Sys2Proof.Machine.execLle rt base off9 s
  | .sce rt base off9 => Sys2Proof.Machine.execSce rt base off9 s
  | .llwpe rt rd base => Sys2Proof.Machine.execLlwpe rt rd base s
  | .scwpe rt rd base => Sys2Proof.Machine.execScwpe rt rd base s
  | .lwc1 ft base off => Sys2Proof.Machine.execLwc1 ft base off s
  | .swc1 ft base off => Sys2Proof.Machine.execSwc1 ft base off s
  | .ldc1 ft base off => Sys2Proof.Machine.execLdc1 ft base off s
  | .sdc1 ft base off => Sys2Proof.Machine.execSdc1 ft base off s
  -- Coprocessor and shadow register moves, COP2 memory and branches (49_coprocessor_moves.md)
  | .mfc1 rt fs => Sys2Proof.Machine.execMfc1 rt fs s
  | .mtc1 rt fs => Sys2Proof.Machine.execMtc1 rt fs s
  | .mfhc1 rt fs => Sys2Proof.Machine.execMfhc1 rt fs s
  | .mthc1 rt fs => Sys2Proof.Machine.execMthc1 rt fs s
  | .cfc1 rt fs => Sys2Proof.Machine.execCfc1 rt fs s
  | .ctc1 rt fs => Sys2Proof.Machine.execCtc1 rt fs s
  | .mfc2 rt rd => Sys2Proof.Machine.execMfc2 rt rd s
  | .mtc2 rt rd => Sys2Proof.Machine.execMtc2 rt rd s
  | .mfhc2 rt rd => Sys2Proof.Machine.execMfhc2 rt rd s
  | .mthc2 rt rd => Sys2Proof.Machine.execMthc2 rt rd s
  | .cfc2 rt rd => Sys2Proof.Machine.execCfc2 rt rd s
  | .ctc2 rt rd => Sys2Proof.Machine.execCtc2 rt rd s
  | .lwc2 rt base off11 => Sys2Proof.Machine.execLwc2 rt base off11 s
  | .swc2 rt base off11 => Sys2Proof.Machine.execSwc2 rt base off11 s
  | .ldc2 rt base off11 => Sys2Proof.Machine.execLdc2 rt base off11 s
  | .sdc2 rt base off11 => Sys2Proof.Machine.execSdc2 rt base off11 s
  | .bc2eqz ct imm => Sys2Proof.Machine.execBc2eqz ct imm s
  | .bc2nez ct imm => Sys2Proof.Machine.execBc2nez ct imm s
  | .rdpgpr rd rt => Sys2Proof.Machine.execRdpgpr rd rt s
  | .wrpgpr rd rt => Sys2Proof.Machine.execWrpgpr rd rt s

end Sys2Proof.Machine
end

