-- ==== Sys2Proof/Machine/Step.lean ====
section
/-! DEFINITION. The step function of the machine (10_state.md R34 to R41) and the placing of a word where it fetches. -/

namespace Sys2Proof.Machine

-- What decodes is not compiled: see Decode.lean.
noncomputable section

/-- One step, the document's `execute()`: its outcome Ok or Fatal is `raised` in the next state (R560). -/
def step (s : State) : Host.Outcome State Fault Refusal := stepWith exec s

/-- The state with an instruction's word, numbered as the opcode table numbers its bits, stored big-endian at pc (R54, R70). It
stands for the host's loading of MEM_IMAGE (R590, R603): notes/assumptions/5.md. -/
def State.withFetchWord (s : State) (_nbits w : Nat) : State :=
  s.setMem (store32 s.mem s.pc (BitVec.ofNat 32 w))

end

end Sys2Proof.Machine
end

