-- ==== Sys2Proof/Safety.lean ====
section
/-! DEFINITION. The terms in which statements about the machine are written: the invariant of the states between steps, what may
differ between two states, how an instruction completes, and the value of a floating-point pattern. -/

namespace Sys2Proof.Machine

/-! ### The invariant -/

/-- Every listed address lies below a bound. -/
def addressesBelow (n : Nat) : Memory → Bool
  | [] => true
  | (a, _) :: rest => decide (a < n) && addressesBelow n rest

/-- The invariant of the states between steps: the memory in its canonical form and inside MEM_BYTES (R32, R57), the parameters as
R6 requires, and no delay slot owed (R33). -/
def State.wf (s : State) : Bool :=
  s.mem.wf && addressesBelow s.params.memBytes s.mem && s.params.wf && decide (s.slot = .idle)

/-! ### What a step or an instruction may change -/

/-- The byte at an address, as a program reads it (R52). -/
def State.byteAt (s : State) (a : Nat) : Byte := readByte s.mem a

/-- A place of the state that an instruction may write. -/
inductive Place where
  /-- x[r] -/
  | x (r : Reg)
  /-- f[r] -/
  | f (r : Reg)
  /-- fcr[r] -/
  | fcr (r : Reg)
  /-- c2d[r] -/
  | c2d (r : Reg)
  /-- c2c[r] -/
  | c2c (r : Reg)
  /-- sx[r] -/
  | sx (r : Reg)
  /-- hi -/
  | hi
  /-- lo -/
  | lo
  /-- pc -/
  | pc
  /-- One byte of memory. -/
  | byte (a : Nat)
  /-- The outcome of the step (R560). -/
  | raised
  /-- The delay slot that the step owes (R193). -/
  | slot
deriving DecidableEq, Repr

/-- Two states agree at a place. -/
def SameAt (s t : State) (p : Place) : Prop :=
  match p with
  | .x r => t.getX r = s.getX r
  | .f r => t.getF r = s.getF r
  | .fcr r => t.getFcr r = s.getFcr r
  | .c2d r => t.getC2d r = s.getC2d r
  | .c2c r => t.getC2c r = s.getC2c r
  | .sx r => t.getSx r = s.getSx r
  | .hi => t.hi = s.hi
  | .lo => t.lo = s.lo
  | .pc => t.pc = s.pc
  | .byte a => t.byteAt a = s.byteAt a
  | .raised => t.raised = s.raised
  | .slot => t.slot = s.slot

/-- The frame: two states agree everywhere but at the listed places; copBit and the parameters are no places and always agree (R31).
Only the counter of free values is left out. -/
def OnlyChanges (ps : List Place) (s t : State) : Prop :=
  (∀ p, p ∉ ps → SameAt s t p) ∧ t.copBit = s.copBit ∧ t.params = s.params

/-- The instruction completes: `exec` answers a next state in which `q` holds and that differs from `s` at the listed places only. -/
def Completes (i : Instr) (s : State) (ps : List Place) (q : State → Prop) : Prop :=
  ∃ t, exec i s = .next t ∧ q t ∧ OnlyChanges ps s t

/-- The places of the n bytes of an access at `a`, modulo 2^32 (R51). -/
def bytePlaces (a : Word) (n : Nat) : List Place := (List.range n).map fun i => .byte (a + BitVec.ofNat 32 i).toNat

/-- The n bytes of an access at `a`, lowest address first (R51). -/
def State.bytesFrom (s : State) (a : Word) (n : Nat) : List Byte :=
  (List.range n).map fun i => s.byteAt (a + BitVec.ofNat 32 i).toNat

/-- The number that bytes make, the first the most significant (R52, R54). -/
def bigEndian (bs : List Byte) : Nat := bs.foldl (fun v b => 256 * v + b.toNat) 0

/-! ### Floating point -/

/-- `v` is an acceptable value of format S for a result: its pattern, QNAN_S, or some quiet NaN (R252). -/
def IsResultS (s : State) (r : FpResult) (v : Word) : Prop :=
  match r with
  | .bits p => v.toNat = p
  | .invalid => v = s.params.qnanS
  | .anyNaN => v &&& 0x7FC00000#32 = 0x7FC00000#32

/-- `v` is an acceptable value of format D for a result: its pattern, QNAN_D, or some quiet NaN (R252). -/
def IsResultD (s : State) (r : FpResult) (v : DWord) : Prop :=
  match r with
  | .bits p => v.toNat = p
  | .invalid => v = s.params.qnanD
  | .anyNaN => v &&& 0x7FF8000000000000#64 = 0x7FF8000000000000#64

/-- The width of a format in bits. -/
def Format.width (fmt : Format) : Nat := 1 + fmt.expBits + fmt.fracBits

/-- A pattern of the format that stands for a number: its exponent field is not all ones. -/
def Format.isFinite (fmt : Format) (p : Nat) : Prop :=
  p < 2 ^ fmt.width ∧ p / 2 ^ fmt.fracBits % 2 ^ fmt.expBits ≠ 2 ^ fmt.expBits - 1

/-- The sign bit of a pattern of the format. -/
def Format.signBit (fmt : Format) (p : Nat) : Bool := p.testBit (fmt.expBits + fmt.fracBits)

/-- The pattern of a zero: every field 0 but the sign (R251). -/
def Format.zero (fmt : Format) (neg : Bool) : Nat := if neg then 2 ^ (fmt.width - 1) else 0

/-- The pattern of an infinity: its exponent field all ones, its fraction field 0 (R251). -/
def Format.infinity (fmt : Format) (neg : Bool) : Nat :=
  (if neg then 2 ^ (fmt.width - 1) else 0) + (2 ^ fmt.expBits - 1) * 2 ^ fmt.fracBits

/-- The real number of a finite pattern, from its three fields (IEEE 754-2008 section 3.4; R251). -/
noncomputable def Format.value (fmt : Format) (p : Nat) : ℝ :=
  let bias : ℤ := 2 ^ (fmt.expBits - 1) - 1
  let e := p / 2 ^ fmt.fracBits % 2 ^ fmt.expBits
  let fraction : ℝ := (p % 2 ^ fmt.fracBits : ℕ) / 2 ^ fmt.fracBits
  let sign : ℝ := if fmt.signBit p then -1 else 1
  if e = 0 then sign * fraction * 2 ^ (1 - bias) else sign * (1 + fraction) * 2 ^ ((e : ℤ) - bias)

/-- Two operands whose product is infinite: an infinity times an infinity or a number that is not 0, in either order (R251, R259). -/
def Format.InfiniteProduct (fmt : Format) (p q : Nat) : Prop :=
  let big (r : Nat) : Prop := ∃ n, r = fmt.infinity n
  let nonzero (r : Nat) : Prop := fmt.isFinite r ∧ fmt.value r ≠ 0
  (big p ∧ (big q ∨ nonzero q)) ∨ (nonzero p ∧ big q)

/-- The least magnitude that rounds to infinity: half a unit in the last place above the largest finite number. -/
noncomputable def Format.overflowBound (fmt : Format) : ℝ :=
  (2 - 1 / 2 ^ (fmt.fracBits + 1)) * 2 ^ (2 ^ (fmt.expBits - 1) - 1)

/-- `p` is the real number `v`, not 0, rounded once to the format, to nearest with ties to even; a magnitude too large gives
infinity; the sign is the sign of `v` (R9, R251). -/
def IsRounded (fmt : Format) (v : ℝ) (p : Nat) : Prop :=
  p < 2 ^ fmt.width ∧ (fmt.signBit p = true ↔ v < 0) ∧
  if fmt.overflowBound ≤ |v| then p % 2 ^ (fmt.expBits + fmt.fracBits) = (2 ^ fmt.expBits - 1) * 2 ^ fmt.fracBits
  else fmt.isFinite p ∧ ∀ q, fmt.isFinite q →
    |fmt.value p - v| ≤ |fmt.value q - v| ∧
    (|fmt.value p - v| = |fmt.value q - v| → fmt.value q ≠ fmt.value p → p % 2 = 0)

end Sys2Proof.Machine
end

