-- ==== Sys2Proof/Certificates/Slice0/Obligations.lean ====
section
/-! DEFINITION. The statements for the provers. `Completes i s ps q` says that `exec i s` answers a next state, that `q` holds there, and
that nothing but the places `ps` differs from `s`. In the state that `exec` is given, pc is addr + 4 (10_state.md R36), so addr is
pc - 4. -/

section Statements

open Sys2Proof Sys2Proof.Machine

/-! ## The encoding -/

/-- Decoding the word of a well-formed instruction gives it back, with every operand at every value (30_encoding.md R72, R74, R76 to
R85). -/
def Obligations.DecodeEncodeRoundTrip : Prop := ∀ i : Instr, wellFormed i = true → decode (encode i) = some i

/-- What the decoder answers is an instruction whose row's fixed bits the word has and whose register-field rule holds (30_encoding.md
R74). -/
def Obligations.DecodedInstructionFitsItsRow : Prop :=
  ∀ (w : Word) (i : Instr), decode w = some i → wellFormed i = true ∧ w &&& (rowOf i).mask = (rowOf i).bits

/-- The register-field rules of the eleven collision groups choose the instruction: the eight primary opcodes of 30_encoding.md R76 to
R83, the two sub-opcodes of R84 and the primary opcode of R85; a class with no rule has no instruction (R86). -/
def Obligations.CollisionGroupsFollowTheirRules : Prop :=
  ∀ (rs rt : Reg) (imm : Half),
    decode (packI 0x06#6 rs rt imm) = (if rt = 0 then some (.blez rs imm) else if rs = 0 then some (.blezalc rt imm)
      else if rs = rt then some (.bgezalc rt imm) else some (.bgeuc rs rt imm)) ∧
    decode (packI 0x07#6 rs rt imm) = (if rt = 0 then some (.bgtz rs imm) else if rs = 0 then some (.bgtzalc rt imm)
      else if rs = rt then some (.bltzalc rt imm) else some (.bltuc rs rt imm)) ∧
    decode (packI 0x08#6 rs rt imm) = (if rt = 0 then none else if rt ≤ rs then some (.bovc rs rt imm)
      else if rs = 0 then some (.beqzalc rt imm) else some (.beqc rs rt imm)) ∧
    decode (packI 0x18#6 rs rt imm) = (if rt ≤ rs then some (.bnvc rs rt imm)
      else if rs = 0 then some (.bnezalc rt imm) else some (.bnec rs rt imm)) ∧
    decode (packI 0x16#6 rs rt imm) = (if rt = 0 then none else if rs = 0 then some (.blezc rt imm)
      else if rs = rt then some (.bgezc rt imm) else some (.bgec rs rt imm)) ∧
    decode (packI 0x17#6 rs rt imm) = (if rt = 0 then none else if rs = 0 then some (.bgtzc rt imm)
      else if rs = rt then some (.bltzc rt imm) else some (.bltc rs rt imm)) ∧
    decode (packI 0x36#6 rs rt imm) = (if rt ≠ 0 then some (.jic rt imm) else if rs = 0 then none else some (.beqzc rs imm)) ∧
    decode (packI 0x3E#6 rs rt imm) = (if rt ≠ 0 then some (.jialc rt imm) else if rs = 0 then none else some (.bnezc rs imm)) ∧
    decode (packI 0x01#6 rs 0x10#5 imm) = (if rs = 0 then some (.nal imm) else some (.bltzal rs imm)) ∧
    decode (packI 0x01#6 rs 0x11#5 imm) = (if rs = 0 then some (.bal imm) else some (.bgezal rs imm)) ∧
    decode (packI 0x0F#6 rs rt imm) = (if rs = 0 then some (.lui rt imm) else some (.aui rt rs imm))

/-- The words that do not decode for their primary opcode alone, and the 98 classes of the collision groups that satisfy no
register-field rule (30_encoding.md R86, R87). -/
def Obligations.UnassignedWordsHaveNoInstruction : Prop :=
  ∀ w : Word,
    (w.extractLsb' 26 6 ∈ [0x13#6, 0x14#6, 0x15#6, 0x19#6, 0x1A#6, 0x1B#6, 0x1D#6, 0x1E#6, 0x22#6, 0x26#6, 0x27#6, 0x2A#6, 0x2C#6,
      0x2D#6, 0x2E#6, 0x2F#6, 0x30#6, 0x33#6, 0x34#6, 0x37#6, 0x38#6, 0x3C#6, 0x3F#6] → decode w = none) ∧
    (w.extractLsb' 26 6 ∈ [0x08#6, 0x16#6, 0x17#6] → w.extractLsb' 16 5 = 0 → decode w = none) ∧
    (w.extractLsb' 26 6 ∈ [0x36#6, 0x3E#6] → w.extractLsb' 16 10 = 0 → decode w = none)

/-- Words written out from the encodings of the spec decode to their instructions: `add $t0,$t1,$t2`, `sdc2 $t0,3($t1)`,
`addiu $t0,$t1,1`, `add.s $f0,$f2,$f4`, `di $t0`; and a word that is not a row does not. Fields that select nothing are not examined:
the rs field of SLL, the rt and rd fields of JR, the sa field of ADD, bits 10:7 of LLWP, bits 10:0 of MFC2 (30_encoding.md R71, R72,
R75). -/
def Obligations.WrittenWordsDecode : Prop :=
  decode 0x012A4020#32 = some (.add 8 9 10) ∧ decode 0x49E84803#32 = some (.sdc2 8 9 3) ∧
  decode 0x25280001#32 = some (.addiu 8 9 1) ∧ decode 0x46041000#32 = some (.addS 0 2 4) ∧
  decode 0x41686000#32 = some (.di 8) ∧ decode 0xFFFFFFFF#32 = none ∧
  ∀ (rs rt rd sa : Reg) (b4 : BitVec 4) (b11 : BitVec 11),
    decode (packR 0x00#6 rs rt rd sa 0x00#6) = some (.sll rd rt sa) ∧
    decode (packR 0x00#6 rs rt rd sa 0x08#6) = some (.jr rs) ∧
    decode (packR 0x00#6 rs rt rd sa 0x20#6) = some (.add rd rs rt) ∧
    decode (packMem9 rs rt (rd ++ b4) 0x76#7) = some (.llwp rt rd rs) ∧
    decode (packMem11 0x00#5 rt rd b11) = some (.mfc2 rt rd)

/-! ## The step -/

/-- When the word at pc decodes and the gate lets it through, the step is the meaning of the instruction with pc advanced, for every
instruction that runs no delay slot. For the four that do, it is the meaning and then, unless that raised, one nested pass at pc and
the write of pc (10_state.md R34 to R38, R41; 43_branch_jump.md R192, R193). -/
def Obligations.StepRunsTheDecodedInstruction : Prop :=
  ∀ (s : State) (i : Instr), s.accessible s.pc 4 = true → gateClosed s (load32 s.mem s.pc) = false →
    decode (load32 s.mem s.pc) = some i →
    (hasDelaySlot i = false → step s = exec i (s.begin.setPc (s.pc + 4#32))) ∧
    (hasDelaySlot i = true → ∃ t, exec i (s.begin.setPc (s.pc + 4#32)) = .next t ∧
      (t.raised.isSome = true → step s = .next t) ∧
      (t.raised = none → t.slot ≠ .idle ∧ step s =
        match pass exec true (t.setSlot .idle) with
        | .next u => .next (if u.raised.isSome then u else leaveSlot t.slot u)
        | .fault r => .fault r
        | .refused r => .refused r))

/-- BAL, JAL, JALR and BLTZAL: first the target and the condition, JALR's check of the alignment with them, then the link addr + 8, then
the instruction at addr + 4, then, if the transfer is taken, pc is the target; BLTZAL not taken leaves pc as the slot left it. A
condition raised in the slot ends the step without that write. `i'` is the slot's instruction (43_branch_jump.md R192, R193, R196;
60_exceptions.md R568, R575). -/
def Obligations.DelaySlotRunsBeforeTheTransfer : Prop :=
  ∀ (s : State) (i : Instr), s.accessible s.pc 4 = true → decode (load32 s.mem s.pc) = some i →
    (∀ rd rs, i = .jalr rd rs → (s.getX rs).toNat % 4 ≠ 0 → ∃ t, step s = .next t ∧ t.raised = some .addressError ∧
      t.pc = s.pc + 4#32 ∧ OnlyChanges [.raised, .slot, .pc] s t) ∧
    ∀ (i' : Instr) (link : Reg) (taken : Bool) (target : Word) (u : State),
      ((∃ imm, i = .bal imm ∧ link = 31 ∧ taken = true ∧ target = BitVec.ofInt 32 (s.pc.toInt + 4 + 4 * imm.toInt)) ∨
       (∃ index, i = .jal index ∧ link = 31 ∧ taken = true ∧
          target = BitVec.ofNat 32 ((s.pc + 4#32).toNat / 2 ^ 28 * 2 ^ 28 + 4 * index.toNat)) ∨
       (∃ rd rs, i = .jalr rd rs ∧ link = rd ∧ taken = true ∧ target = s.getX rs ∧ (s.getX rs).toNat % 4 = 0) ∨
       (∃ rs imm, i = .bltzal rs imm ∧ link = 31 ∧ taken = decide ((s.getX rs).toInt < 0) ∧
          target = BitVec.ofInt 32 (s.pc.toInt + 4 + 4 * imm.toInt))) →
      s.accessible (s.pc + 4#32) 4 = true → decode (load32 s.mem (s.pc + 4#32)) = some i' →
      gateClosed s (load32 s.mem (s.pc + 4#32)) = false → hasDelaySlot i' = false →
      exec i' ((s.begin.setX link (s.pc + 8#32)).setPc (s.pc + 8#32)) = .next u →
      step s = .next (if u.raised = none ∧ taken = true then u.setPc target else u)

/-- BAL, JAL, JALR with an aligned target and BLTZAL with one of the four in their delay slot: the step is refused (43_branch_jump.md
R195; 93_implementation_defined.md U2). R195 gives the step no defined result and has a model refuse it; the name of the refusal, and that
it comes before anything of the slot's instruction, are the model's choice (notes/assumptions/14.md). `decodeIn` is decoding with the
parameter DECODE_FALLBACK of 30_encoding.md R86. -/
def Obligations.NestedDelaySlotIsRefused : Prop :=
  ∀ (s : State) (i i' : Instr),
    s.accessible s.pc 4 = true → s.accessible (s.pc + 4#32) 4 = true →
    decodeIn s.params (load32 s.mem s.pc) = some i → hasDelaySlot i = true →
    (∀ rd rs, i = .jalr rd rs → (s.getX rs).toNat % 4 = 0) →
    decodeIn s.params (load32 s.mem (s.pc + 4#32)) = some i' → hasDelaySlot i' = true →
    step s = .refused .nestedDelaySlot

/-- A word of primary opcode 0x12 while bit 1 of copBit is 0: the step ends Ok and changes nothing, pc included, whether or not the
word decodes (10_state.md R35; 70_reset_and_hazards.md R598). -/
def Obligations.ClosedGateChangesNothing : Prop :=
  ∀ s : State, s.accessible s.pc 4 = true → (load32 s.mem s.pc).extractLsb' 26 6 = 0x12#6 → s.copBit.getLsbD 1 = false →
    ∃ t, step s = .next t ∧ t.raised = none ∧ OnlyChanges [.raised, .slot] s t ∧ (s.slot = .idle → t.slot = s.slot) ∧
      step t = .next t

/-- A word that does not decode: the step ends with UnknownOpcode, pc advances, and nothing else changes (10_state.md R36, R37;
60_exceptions.md R562). The last premise: DECODE_FALLBACK has no entry for a word of the 98 classes (30_encoding.md R86; its default has
no entry at all). -/
def Obligations.UnknownOpcodeChangesPcOnly : Prop :=
  ∀ s : State, s.accessible s.pc 4 = true → gateClosed s (load32 s.mem s.pc) = false → decode (load32 s.mem s.pc) = none →
    (uncovered (load32 s.mem s.pc) = true → ∀ e ∈ s.params.decodeFallback, e.1 ≠ load32 s.mem s.pc) →
    ∃ t, step s = .next t ∧ t.raised = some .unknownOpcode ∧ t.pc = s.pc + 4#32 ∧ OnlyChanges [.raised, .slot, .pc] s t ∧
      (s.slot = .idle → t.slot = s.slot)

/-- The machine has no memory of the condition that the last step raised, and none of a delay slot: the next step does not depend on
them (10_state.md R33; 60_exceptions.md R574; 70_reset_and_hazards.md R601). The fields are the model's own
(notes/assumptions/1.md, 15.md). -/
def Obligations.StepForgetsTheLastOutcome : Prop :=
  ∀ (s : State) (c : Option Condition) (d : DelaySlot), step ((s.setRaised c).setSlot d) = step s

/-- Every step keeps the invariant: the memory stays in its canonical form and below MEM_BYTES, the parameters stay as they are, no
delay slot is owed after it; and copBit never changes (10_state.md R31 to R33; 20_memory.md R57). -/
def Obligations.EveryStepKeepsTheInvariant : Prop :=
  ∀ s t : State, s.wf = true → step s = .next t → t.wf = true ∧ t.params = s.params ∧ t.copBit = s.copBit

/-- The state after reset satisfies the invariant, whatever the host supplies: every memory image in canonical form and below MEM_BYTES,
every well-formed set of parameters and every RESET_PC, RESET_SP and COP_ENABLE (70_reset_and_hazards.md R590); so does `State.reset`. -/
def Obligations.ResetSatisfiesTheInvariant : Prop :=
  State.reset.wf = true ∧
  ∀ (m : Memory) (pc sp : Word) (cop : BitVec 2) (p : Params), m.wf = true → addressesBelow p.memBytes m = true → p.wf = true →
    (State.resetWith m pc sp cop p).wf = true

/-- Reset puts its four inputs where they belong and 0 everywhere else; where RESET_PC lies outside the memory the first step is
refused, as R591 and 20_memory.md R57 say, with a refusal whose name is the model's choice (notes/assumptions/7.md)
(70_reset_and_hazards.md R590, R591). -/
def Obligations.ResetValues : Prop :=
  ∀ (m : Memory) (pc sp : Word) (cop : BitVec 2) (p : Params), let s := State.resetWith m pc sp cop p
    s.pc = pc ∧ s.getX 29 = sp ∧ (∀ r, r ≠ 29 → s.getX r = 0) ∧ s.copBit = cop ∧ s.mem = m ∧ s.hi = 0 ∧ s.lo = 0 ∧
    (∀ r, s.getF r = 0 ∧ s.getFcr r = 0 ∧ s.getC2d r = 0 ∧ s.getC2c r = 0 ∧ s.getSx r = 0) ∧
    (s.accessible pc 4 = false → step s = .refused .outsideMemory)

/-! ## Memory -/

/-- A read of 1, 2, 4 or 8 bytes is the number that the bytes make, the lowest address most significant, addresses modulo 2^32
(20_memory.md R51, R52, R54). -/
def Obligations.ReadsAreBigEndian : Prop :=
  ∀ (s : State) (a : Word),
    (load8 s.mem a).toNat = bigEndian (s.bytesFrom a 1) ∧ (load16 s.mem a).toNat = bigEndian (s.bytesFrom a 2) ∧
    (load32 s.mem a).toNat = bigEndian (s.bytesFrom a 4) ∧ (load64 s.mem a).toNat = bigEndian (s.bytesFrom a 8)

/-- A write of n bytes sets byte a + i to the bits 8(n-i)-1 : 8(n-i-1) of the value and changes nothing else; a read of n bytes at the
same address gives the value back and a read of a part of them the bits of that part (20_memory.md R53). -/
def Obligations.WritesStoreEachByte : Prop :=
  ∀ (m : Memory) (a : Word),
    (∀ v, load8 (store8 m a v) a = v ∧ ∀ k, readByte (store8 m a v) k = if k = a.toNat then v else readByte m k) ∧
    (∀ v, load16 (store16 m a v) a = v ∧
      (∀ i, i < 2 → load8 (store16 m a v) (a + BitVec.ofNat 32 i) = v.extractLsb' (8 * (2 - i - 1)) 8) ∧
      ∀ k, (∀ i, i < 2 → k ≠ (a + BitVec.ofNat 32 i).toNat) → readByte (store16 m a v) k = readByte m k) ∧
    (∀ v, load32 (store32 m a v) a = v ∧
      (∀ i, i ≤ 2 → load16 (store32 m a v) (a + BitVec.ofNat 32 i) = v.extractLsb' (8 * (2 - i)) 16) ∧
      (∀ i, i < 4 → load8 (store32 m a v) (a + BitVec.ofNat 32 i) = v.extractLsb' (8 * (4 - i - 1)) 8) ∧
      ∀ k, (∀ i, i < 4 → k ≠ (a + BitVec.ofNat 32 i).toNat) → readByte (store32 m a v) k = readByte m k) ∧
    (∀ v, load64 (store64 m a v) a = v ∧
      (∀ i, i ≤ 4 → load32 (store64 m a v) (a + BitVec.ofNat 32 i) = v.extractLsb' (8 * (4 - i)) 32) ∧
      (∀ i, i ≤ 6 → load16 (store64 m a v) (a + BitVec.ofNat 32 i) = v.extractLsb' (8 * (6 - i)) 16) ∧
      (∀ i, i < 8 → load8 (store64 m a v) (a + BitVec.ofNat 32 i) = v.extractLsb' (8 * (8 - i - 1)) 8) ∧
      ∀ k, (∀ i, i < 8 → k ≠ (a + BitVec.ofNat 32 i).toNat) → readByte (store64 m a v) k = readByte m k)

/-- A load, store or fetch with a byte at or above MEM_BYTES is refused (20_memory.md R57; 93_implementation_defined.md U6). The name of
the refusal, and that an odd pair is reported before it, are the model's choice (notes/assumptions/7.md). -/
def Obligations.AccessOutsideMemoryStops : Prop :=
  ∀ (s : State) (rt rd base : Reg) (off : Half) (o9 : BitVec 9) (o11 : BitVec 11) (imm : BitVec 19),
    (s.accessible s.pc 4 = false → step s = .refused .outsideMemory) ∧
    (s.accessible (s.ea16 base off) 1 = false →
      ∀ i ∈ [Instr.lb rt base off, .lbu rt base off, .sb rt base off], exec i s = .refused .outsideMemory) ∧
    (s.accessible (s.ea16 base off) 2 = false →
      ∀ i ∈ [Instr.lh rt base off, .lhu rt base off, .sh rt base off], exec i s = .refused .outsideMemory) ∧
    (s.accessible (s.ea16 base off) 4 = false →
      ∀ i ∈ [Instr.lw rt base off, .sw rt base off, .lwc1 rt base off, .swc1 rt base off], exec i s = .refused .outsideMemory) ∧
    (s.accessible (s.ea9 base o9) 1 = false →
      ∀ i ∈ [Instr.lbe rt base o9, .lbue rt base o9, .sbe rt base o9], exec i s = .refused .outsideMemory) ∧
    (s.accessible (s.ea9 base o9) 2 = false →
      ∀ i ∈ [Instr.lhe rt base o9, .lhue rt base o9, .she rt base o9], exec i s = .refused .outsideMemory) ∧
    (s.accessible (s.ea9 base o9) 4 = false →
      ∀ i ∈ [Instr.lwe rt base o9, .swe rt base o9, .ll rt base o9, .sc rt base o9, .lle rt base o9, .sce rt base o9],
        exec i s = .refused .outsideMemory) ∧
    (s.accessible (s.pcRel19 imm) 4 = false → exec (.lwpc rt imm) s = .refused .outsideMemory) ∧
    (s.accessible (s.ea11 base o11) 4 = false →
      ∀ i ∈ [Instr.lwc2 rt base o11, .swc2 rt base o11], exec i s = .refused .outsideMemory) ∧
    (s.accessible (s.getX base) 8 = false →
      ∀ i ∈ [Instr.llwp rt rd base, .llwpe rt rd base, .scwp rt rd base, .scwpe rt rd base], exec i s = .refused .outsideMemory) ∧
    (rt.toNat % 2 = 0 → s.accessible (s.ea16 base off) 8 = false →
      ∀ i ∈ [Instr.ldc1 rt base off, .sdc1 rt base off], exec i s = .refused .outsideMemory) ∧
    (rt.toNat % 2 = 0 → s.accessible (s.ea11 base o11) 8 = false →
      ∀ i ∈ [Instr.ldc2 rt base o11, .sdc2 rt base o11], exec i s = .refused .outsideMemory)

/-- The address computations wrap modulo 2^32: base plus a sign-extended offset, addr plus an offset in words, the branch targets from
addr + 4 and the jump target with the four top bits of addr + 4 (30_encoding.md R73; 43_branch_jump.md R190; 48_load_store_atomic.md
R480). -/
def Obligations.AddressesAndTargets : Prop :=
  ∀ (s : State) (base : Reg) (off : Half) (o9 : BitVec 9) (o11 : BitVec 11) (i19 : BitVec 19) (o26 : BitVec 26),
    s.ea16 base off = BitVec.ofInt 32 ((s.getX base).toInt + off.toInt) ∧
    s.ea9 base o9 = BitVec.ofInt 32 ((s.getX base).toInt + o9.toInt) ∧
    s.ea11 base o11 = BitVec.ofInt 32 ((s.getX base).toInt + o11.toInt) ∧
    s.pcRel19 i19 = BitVec.ofInt 32 (s.pc.toInt - 4 + 4 * i19.toInt) ∧
    s.branchTarget16 off = BitVec.ofInt 32 (s.pc.toInt + 4 * off.toInt) ∧
    s.branchTarget26 o26 = BitVec.ofInt 32 (s.pc.toInt + 4 * o26.toInt) ∧
    (s.jumpTarget o26).toNat = s.pc.toNat / 2 ^ 28 * 2 ^ 28 + 4 * o26.toNat

/-! ## Integer instructions -/

/-- ADDU, SUBU and ADDIU wrap modulo 2^32; ADD does too unless the parameter ADD_OVERFLOW_TRAPS is set (40_arithmetic_logic.md R101,
R102, R104, R105). rd = 0 is a register like any other (10_state.md R21). -/
def Obligations.AdditionWraps : Prop :=
  ∀ (s : State) (rd rs rt : Reg) (imm : Half),
    (s.params.addOverflowTraps = false →
      Completes (.add rd rs rt) s [.x rd] fun t => (t.getX rd).toNat = ((s.getX rs).toNat + (s.getX rt).toNat) % 2 ^ 32) ∧
    Completes (.addu rd rs rt) s [.x rd] (fun t => (t.getX rd).toNat = ((s.getX rs).toNat + (s.getX rt).toNat) % 2 ^ 32) ∧
    Completes (.subu rd rs rt) s [.x rd] (fun t => t.getX rd = BitVec.ofInt 32 ((s.getX rs).toInt - (s.getX rt).toInt)) ∧
    Completes (.addiu rt rs imm) s [.x rt] (fun t => t.getX rt = BitVec.ofInt 32 ((s.getX rs).toInt + imm.toInt))

/-- SUB writes the signed difference if it fits 32 bits and otherwise raises IntegerOverflow and writes nothing; ADD does the same with
the sum where ADD_OVERFLOW_TRAPS is set (40_arithmetic_logic.md R101, R103; 60_exceptions.md R570). -/
def Obligations.CheckedArithmeticRaisesOrWrites : Prop :=
  ∀ (s : State) (rd rs rt : Reg),
    let d := (s.getX rs).toInt - (s.getX rt).toInt
    let a := (s.getX rs).toInt + (s.getX rt).toInt
    (-2 ^ 31 ≤ d → d ≤ 2 ^ 31 - 1 → Completes (.sub rd rs rt) s [.x rd] fun t => (t.getX rd).toInt = d) ∧
    (d < -2 ^ 31 ∨ 2 ^ 31 - 1 < d → Completes (.sub rd rs rt) s [.raised] fun t => t.raised = some .integerOverflow) ∧
    (s.params.addOverflowTraps = true → -2 ^ 31 ≤ a → a ≤ 2 ^ 31 - 1 →
      Completes (.add rd rs rt) s [.x rd] fun t => (t.getX rd).toInt = a) ∧
    (s.params.addOverflowTraps = true → a < -2 ^ 31 ∨ 2 ^ 31 - 1 < a →
      Completes (.add rd rs rt) s [.raised] fun t => t.raised = some .integerOverflow)

/-- AND, OR, XOR, NOR and their immediate forms work bit by bit; the immediate is zero-extended (40_arithmetic_logic.md R106 to
R112). -/
def Obligations.LogicWorksBitByBit : Prop :=
  ∀ (s : State) (rd rs rt : Reg) (imm : Half),
    let a := s.getX rs
    let b := s.getX rt
    Completes (.and rd rs rt) s [.x rd] (fun t => ∀ k, k < 32 → (t.getX rd).getLsbD k = (a.getLsbD k && b.getLsbD k)) ∧
    Completes (.or rd rs rt) s [.x rd] (fun t => ∀ k, k < 32 → (t.getX rd).getLsbD k = (a.getLsbD k || b.getLsbD k)) ∧
    Completes (.xor rd rs rt) s [.x rd] (fun t => ∀ k, k < 32 → (t.getX rd).getLsbD k = (a.getLsbD k ^^ b.getLsbD k)) ∧
    Completes (.nor rd rs rt) s [.x rd] (fun t => ∀ k, k < 32 → (t.getX rd).getLsbD k = !(a.getLsbD k || b.getLsbD k)) ∧
    Completes (.andi rt rs imm) s [.x rt] (fun t => ∀ k, k < 32 → (t.getX rt).getLsbD k = (a.getLsbD k && imm.getLsbD k)) ∧
    Completes (.ori rt rs imm) s [.x rt] (fun t => ∀ k, k < 32 → (t.getX rt).getLsbD k = (a.getLsbD k || imm.getLsbD k)) ∧
    Completes (.xori rt rs imm) s [.x rt] (fun t => ∀ k, k < 32 → (t.getX rt).getLsbD k = (a.getLsbD k ^^ imm.getLsbD k))

/-- SLT, SLTU, SLTI and SLTIU write 1 or 0; the immediate of both immediate forms is sign-extended first (40_arithmetic_logic.md R113
to R116). SELEQZ and SELNEZ select by rt (R119, R120). -/
def Obligations.ComparisonsAndSelections : Prop :=
  ∀ (s : State) (rd rs rt : Reg) (imm : Half),
    let a := s.getX rs
    let b := s.getX rt
    Completes (.slt rd rs rt) s [.x rd] (fun t => t.getX rd = if a.toInt < b.toInt then 1 else 0) ∧
    Completes (.sltu rd rs rt) s [.x rd] (fun t => t.getX rd = if a.toNat < b.toNat then 1 else 0) ∧
    Completes (.slti rt rs imm) s [.x rt] (fun t => t.getX rt = if a.toInt < imm.toInt then 1 else 0) ∧
    Completes (.sltiu rt rs imm) s [.x rt] (fun t => t.getX rt = if a.toNat < (BitVec.ofInt 32 imm.toInt).toNat then 1 else 0) ∧
    Completes (.seleqz rd rs rt) s [.x rd] (fun t => t.getX rd = if b = 0 then a else 0) ∧
    Completes (.selnez rd rs rt) s [.x rd] (fun t => t.getX rd = if b ≠ 0 then a else 0)

/-- LUI, AUI, ADDIUPC, AUIPC and ALUIPC; addr is pc - 4 (40_arithmetic_logic.md R117, R118, R131 to R133). -/
def Obligations.UpperImmediatesAndPcRelative : Prop :=
  ∀ (s : State) (rs rt : Reg) (imm : Half) (i19 : BitVec 19),
    Completes (.lui rt imm) s [.x rt] (fun t => (t.getX rt).toNat = imm.toNat * 2 ^ 16) ∧
    Completes (.aui rt rs imm) s [.x rt] (fun t => (t.getX rt).toNat = ((s.getX rs).toNat + imm.toNat * 2 ^ 16) % 2 ^ 32) ∧
    Completes (.addiupc rs i19) s [.x rs] (fun t => t.getX rs = BitVec.ofInt 32 (s.pc.toInt - 4 + 4 * i19.toInt)) ∧
    Completes (.auipc rs imm) s [.x rs] (fun t => t.getX rs = BitVec.ofInt 32 (s.pc.toInt - 4 + imm.toNat * 2 ^ 16)) ∧
    Completes (.aluipc rs imm) s [.x rs] (fun t =>
      (t.getX rs).toNat = (BitVec.ofInt 32 (s.pc.toInt - 4 + imm.toNat * 2 ^ 16)).toNat / 2 ^ 16 * 2 ^ 16)

/-- CLZ and CLO count the leading bits: the counted bits all are 0 (1), and the next one, if any, is not (40_arithmetic_logic.md R121,
R122). -/
def Obligations.LeadingBitsAreCounted : Prop :=
  ∀ (s : State) (rd rs : Reg),
    Completes (.clz rd rs) s [.x rd] (fun t => (t.getX rd).toNat ≤ 32 ∧
      (∀ k, 32 - (t.getX rd).toNat ≤ k → k < 32 → (s.getX rs).getLsbD k = false) ∧
      ((t.getX rd).toNat < 32 → (s.getX rs).getLsbD (31 - (t.getX rd).toNat) = true)) ∧
    Completes (.clo rd rs) s [.x rd] (fun t => (t.getX rd).toNat ≤ 32 ∧
      (∀ k, 32 - (t.getX rd).toNat ≤ k → k < 32 → (s.getX rs).getLsbD k = true) ∧
      ((t.getX rd).toNat < 32 → (s.getX rs).getLsbD (31 - (t.getX rd).toNat) = false))

/-- SEB and SEH sign-extend; WSBH exchanges the bytes of each halfword; BITSWAP reverses the bits of each byte; ALIGN takes 32 bits
out of rt || rs, bp bytes from the top; LSA adds a scaled register (40_arithmetic_logic.md R123 to R127, R130). -/
def Obligations.BytesAreExtendedSwappedAndAligned : Prop :=
  ∀ (s : State) (rd rs rt : Reg) (bp sa2 : BitVec 2),
    Completes (.seb rd rt) s [.x rd] (fun t => (t.getX rd).toInt = ((s.getX rt).setWidth 8).toInt) ∧
    Completes (.seh rd rt) s [.x rd] (fun t => (t.getX rd).toInt = ((s.getX rt).setWidth 16).toInt) ∧
    Completes (.wsbh rd rt) s [.x rd] (fun t => ∀ j, j < 4 →
      (t.getX rd).extractLsb' (8 * j) 8 = (s.getX rt).extractLsb' (8 * (j ^^^ 1)) 8) ∧
    Completes (.bitswap rd rt) s [.x rd] (fun t => ∀ j k, j < 4 → k < 8 →
      (t.getX rd).getLsbD (8 * j + k) = (s.getX rt).getLsbD (8 * j + (7 - k))) ∧
    Completes (.align rd rs rt bp) s [.x rd] (fun t =>
      t.getX rd = (s.getX rt ++ s.getX rs).extractLsb' (32 - 8 * bp.toNat) 32) ∧
    Completes (.lsa rd rs rt sa2) s [.x rd] (fun t =>
      (t.getX rd).toNat = ((s.getX rs).toNat * 2 ^ (sa2.toNat + 1) + (s.getX rt).toNat) % 2 ^ 32)

/-- EXT takes the field of msbd + 1 bits from bit lsb, zero-extended; INS replaces the bits msb : lsb of rt. With fields that make no
sense the spec has the step refused (40_arithmetic_logic.md R128, R129; 93_implementation_defined.md U9). -/
def Obligations.BitFieldsAreMovedOrRefused : Prop :=
  ∀ (s : State) (rt rs msb lsb : Reg),
    (lsb.toNat + msb.toNat ≤ 31 → Completes (.ext rt rs msb lsb) s [.x rt] fun t => ∀ k, k < 32 →
      (t.getX rt).getLsbD k = (decide (k ≤ msb.toNat) && (s.getX rs).getLsbD (lsb.toNat + k))) ∧
    (31 < lsb.toNat + msb.toNat → exec (.ext rt rs msb lsb) s = .refused .bitField) ∧
    (lsb.toNat ≤ msb.toNat → Completes (.ins rt rs msb lsb) s [.x rt] fun t => ∀ k, k < 32 →
      (t.getX rt).getLsbD k =
        if lsb.toNat ≤ k ∧ k ≤ msb.toNat then (s.getX rs).getLsbD (k - lsb.toNat) else (s.getX rt).getLsbD k) ∧
    (msb.toNat < lsb.toNat → exec (.ins rt rs msb lsb) s = .refused .bitField)

/-- Shifts and rotates by the sa field or by the low five bits of x[rs] (41_shift_rotate.md R150 to R158). -/
def Obligations.ShiftsAndRotates : Prop :=
  ∀ (s : State) (rd rt rs sa : Reg),
    let v := s.getX rt
    let n := (s.getX rs).toNat % 32
    Completes (.sll rd rt sa) s [.x rd] (fun t => (t.getX rd).toNat = v.toNat * 2 ^ sa.toNat % 2 ^ 32) ∧
    Completes (.srl rd rt sa) s [.x rd] (fun t => (t.getX rd).toNat = v.toNat / 2 ^ sa.toNat) ∧
    Completes (.sra rd rt sa) s [.x rd] (fun t => (t.getX rd).toInt = v.toInt / 2 ^ sa.toNat) ∧
    Completes (.rotr rd rt sa) s [.x rd] (fun t => ∀ k, k < 32 → (t.getX rd).getLsbD k = v.getLsbD ((k + sa.toNat) % 32)) ∧
    Completes (.sllv rd rt rs) s [.x rd] (fun t => (t.getX rd).toNat = v.toNat * 2 ^ n % 2 ^ 32) ∧
    Completes (.srlv rd rt rs) s [.x rd] (fun t => (t.getX rd).toNat = v.toNat / 2 ^ n) ∧
    Completes (.srav rd rt rs) s [.x rd] (fun t => (t.getX rd).toInt = v.toInt / 2 ^ n) ∧
    Completes (.rotrv rd rt rs) s [.x rd] (fun t => ∀ k, k < 32 → (t.getX rd).getLsbD k = v.getLsbD ((k + n) % 32))

/-- MULT and MULTU write the exact 64-bit product to HI||LO; MADD, MADDU, MSUB and MSUBU add it to, or subtract it from, HI||LO modulo
2^64; MUL, MUH, MULU and MUHU write one half of the product to rd and leave HI and LO (42_multiply_divide.md R165 to R168, R175 to
R182). -/
def Obligations.ProductsAreExact : Prop :=
  ∀ (s : State) (rd rs rt : Reg),
    let p := (s.getX rs).toInt * (s.getX rt).toInt
    let u := (s.getX rs).toNat * (s.getX rt).toNat
    Completes (.mult rs rt) s [.hi, .lo] (fun t => (t.hi ++ t.lo).toInt = p) ∧
    Completes (.multu rs rt) s [.hi, .lo] (fun t => (t.hi ++ t.lo).toNat = u) ∧
    Completes (.madd rs rt) s [.hi, .lo] (fun t => t.hi ++ t.lo = BitVec.ofInt 64 ((s.hi ++ s.lo).toInt + p)) ∧
    Completes (.maddu rs rt) s [.hi, .lo] (fun t => (t.hi ++ t.lo).toNat = ((s.hi ++ s.lo).toNat + u) % 2 ^ 64) ∧
    Completes (.msub rs rt) s [.hi, .lo] (fun t => t.hi ++ t.lo = BitVec.ofInt 64 ((s.hi ++ s.lo).toInt - p)) ∧
    Completes (.msubu rs rt) s [.hi, .lo] (fun t => t.hi ++ t.lo = BitVec.ofInt 64 (((s.hi ++ s.lo).toNat : Int) - (u : Int))) ∧
    Completes (.mul rd rs rt) s [.x rd] (fun t => t.getX rd = BitVec.ofInt 32 p) ∧
    Completes (.muh rd rs rt) s [.x rd] (fun t => (t.getX rd).toInt = p / 2 ^ 32) ∧
    Completes (.mulu rd rs rt) s [.x rd] (fun t => (t.getX rd).toNat = u % 2 ^ 32) ∧
    Completes (.muhu rd rs rt) s [.x rd] (fun t => (t.getX rd).toNat = u / 2 ^ 32)

/-- By a divisor that is not 0: the quotient truncated toward zero, wrapped to 32 bits, and the remainder with the sign of the
dividend, into LO and HI or into rd. By 0 the division runs as well: its destinations receive some value, of which nothing is claimed,
nothing else changes and no condition is raised (42_multiply_divide.md R169, R170, R183 to R186; 93_implementation_defined.md U3;
notes/assumptions/6.md, 8.md). -/
def Obligations.DivisionGivesQuotientAndRemainder : Prop :=
  ∀ (s : State) (rd rs rt : Reg),
    let n := (s.getX rs).toInt
    let d := (s.getX rt).toInt
    let un := (s.getX rs).toNat
    let ud := (s.getX rt).toNat
    (s.getX rt ≠ 0 → ∃ q r : Int, n = q * d + r ∧ r.natAbs < d.natAbs ∧ (r ≠ 0 → (r < 0 ↔ n < 0)) ∧
      Completes (.div rs rt) s [.hi, .lo] (fun t => t.lo = BitVec.ofInt 32 q ∧ t.hi = BitVec.ofInt 32 r) ∧
      Completes (.divR6 rd rs rt) s [.x rd] (fun t => t.getX rd = BitVec.ofInt 32 q) ∧
      Completes (.mod rd rs rt) s [.x rd] (fun t => t.getX rd = BitVec.ofInt 32 r) ∧
      Completes (.divu rs rt) s [.hi, .lo] (fun t => t.lo.toNat * ud + t.hi.toNat = un ∧ t.hi.toNat < ud) ∧
      Completes (.divuR6 rd rs rt) s [.x rd] (fun t => (t.getX rd).toNat = un / ud) ∧
      Completes (.modu rd rs rt) s [.x rd] (fun t => (t.getX rd).toNat = un % ud)) ∧
    (s.getX rt = 0 →
      Completes (.div rs rt) s [.hi, .lo] (fun _ => True) ∧ Completes (.divu rs rt) s [.hi, .lo] (fun _ => True) ∧
      Completes (.divR6 rd rs rt) s [.x rd] (fun _ => True) ∧ Completes (.mod rd rs rt) s [.x rd] (fun _ => True) ∧
      Completes (.divuR6 rd rs rt) s [.x rd] (fun _ => True) ∧ Completes (.modu rd rs rt) s [.x rd] (fun _ => True))

/-- MFHI, MFLO, MTHI, MTLO (42_multiply_divide.md R171 to R174), the moves between the general registers and the other files
(49_coprocessor_moves.md R530, R533 to R544, R551, R552); MFHC1, MTHC1, MFHC2 and MTHC2 reach the odd register h of an even pair. -/
def Obligations.MovesCopyOneRegister : Prop :=
  ∀ (s : State) (r q : Reg),
    Completes (.mfhi r) s [.x r] (fun t => t.getX r = s.hi) ∧ Completes (.mflo r) s [.x r] (fun t => t.getX r = s.lo) ∧
    Completes (.mthi r) s [.hi] (fun t => t.hi = s.getX r) ∧ Completes (.mtlo r) s [.lo] (fun t => t.lo = s.getX r) ∧
    Completes (.mfc1 r q) s [.x r] (fun t => t.getX r = s.getF q) ∧
    Completes (.mtc1 r q) s [.f q] (fun t => t.getF q = s.getX r) ∧
    Completes (.cfc1 r q) s [.x r] (fun t => t.getX r = s.getFcr q) ∧
    Completes (.ctc1 r q) s [.fcr q] (fun t => t.getFcr q = s.getX r) ∧
    Completes (.mfc2 r q) s [.x r] (fun t => t.getX r = s.getC2d q) ∧
    Completes (.mtc2 r q) s [.c2d q] (fun t => t.getC2d q = s.getX r) ∧
    Completes (.cfc2 r q) s [.x r] (fun t => t.getX r = s.getC2c q) ∧
    Completes (.ctc2 r q) s [.c2c q] (fun t => t.getC2c q = s.getX r) ∧
    Completes (.rdpgpr r q) s [.x r] (fun t => t.getX r = s.getSx q) ∧
    Completes (.wrpgpr r q) s [.sx r] (fun t => t.getSx r = s.getX q) ∧
    ∀ h : Reg, q.toNat % 2 = 0 → h.toNat = q.toNat + 1 →
      Completes (.mfhc1 r q) s [.x r] (fun t => t.getX r = s.getF h) ∧
      Completes (.mthc1 r q) s [.f h] (fun t => t.getF h = s.getX r) ∧
      Completes (.mfhc2 r q) s [.x r] (fun t => t.getX r = s.getC2d h) ∧
      Completes (.mthc2 r q) s [.c2d h] (fun t => t.getC2d h = s.getX r)

/-! ## Control transfers -/

/-- The conditional branches that link nothing, with and without a zero register, and their targets addr + 4 + 4 * offset; not taken,
pc stays addr + 4; no delay slot runs. BC1EQZ and BC1NEZ test bit 0 of f[ft], BC2EQZ and BC2NEZ bit 0 of c2d[ct] (43_branch_jump.md
R190, R191, R202 to R207, R214 to R227; 46_fpu_convert_branch.md R407, R408; 49_coprocessor_moves.md R549, R550). -/
def Obligations.ConditionalBranchesWritePcOnly : Prop :=
  ∀ (s : State) (rs rt : Reg) (imm : Half),
    let a := s.getX rs
    let b := s.getX rt
    let goesTo (c : Prop) (t : State) : Prop := (c → t.pc = BitVec.ofInt 32 (s.pc.toInt + 4 * imm.toInt)) ∧ (¬ c → t.pc = s.pc)
    (∀ i ∈ [Instr.beq rs rt imm, .beqc rs rt imm], Completes i s [.pc] (goesTo (a = b))) ∧
    (∀ i ∈ [Instr.bne rs rt imm, .bnec rs rt imm], Completes i s [.pc] (goesTo (a ≠ b))) ∧
    (∀ i ∈ [Instr.blez rs imm, .blezc rs imm], Completes i s [.pc] (goesTo (a.toInt ≤ 0))) ∧
    (∀ i ∈ [Instr.bgtz rs imm, .bgtzc rs imm], Completes i s [.pc] (goesTo (0 < a.toInt))) ∧
    (∀ i ∈ [Instr.bltz rs imm, .bltzc rs imm], Completes i s [.pc] (goesTo (a.toInt < 0))) ∧
    (∀ i ∈ [Instr.bgez rs imm, .bgezc rs imm], Completes i s [.pc] (goesTo (0 ≤ a.toInt))) ∧
    Completes (.beqzc rs imm) s [.pc] (goesTo (a = 0)) ∧ Completes (.bnezc rs imm) s [.pc] (goesTo (a ≠ 0)) ∧
    Completes (.bltc rs rt imm) s [.pc] (goesTo (a.toInt < b.toInt)) ∧ Completes (.bgec rs rt imm) s [.pc] (goesTo (b.toInt ≤ a.toInt)) ∧
    Completes (.bltuc rs rt imm) s [.pc] (goesTo (a.toNat < b.toNat)) ∧ Completes (.bgeuc rs rt imm) s [.pc] (goesTo (b.toNat ≤ a.toNat)) ∧
    Completes (.bovc rs rt imm) s [.pc] (goesTo (a.toInt + b.toInt < -2 ^ 31 ∨ 2 ^ 31 - 1 < a.toInt + b.toInt)) ∧
    Completes (.bnvc rs rt imm) s [.pc] (goesTo (-2 ^ 31 ≤ a.toInt + b.toInt ∧ a.toInt + b.toInt ≤ 2 ^ 31 - 1)) ∧
    Completes (.bc1eqz rt imm) s [.pc] (goesTo ((s.getF rt).toNat % 2 = 0)) ∧
    Completes (.bc1nez rt imm) s [.pc] (goesTo ((s.getF rt).toNat % 2 = 1)) ∧
    Completes (.bc2eqz rt imm) s [.pc] (goesTo ((s.getC2d rt).toNat % 2 = 0)) ∧
    Completes (.bc2nez rt imm) s [.pc] (goesTo ((s.getC2d rt).toNat % 2 = 1))

/-- J, JR, BC and JIC write pc and nothing else, without looking at the alignment of the target (43_branch_jump.md R190, R197, R198,
R200, R212, R234). -/
def Obligations.JumpsWritePcOnly : Prop :=
  ∀ (s : State) (r : Reg) (imm : Half) (index : BitVec 26),
    Completes (.j index) s [.pc] (fun t => t.pc.toNat = s.pc.toNat / 2 ^ 28 * 2 ^ 28 + 4 * index.toNat) ∧
    Completes (.jr r) s [.pc] (fun t => t.pc = s.getX r) ∧
    Completes (.bc index) s [.pc] (fun t => t.pc = BitVec.ofInt 32 (s.pc.toInt + 4 * index.toInt)) ∧
    Completes (.jic r imm) s [.pc] (fun t => t.pc = BitVec.ofInt 32 ((s.getX r).toInt + imm.toInt))

/-- The linking transfers without a delay slot write x[31] whether or not they are taken: addr + 8 for BGEZAL and NAL, addr + 4 for the
compact ones; the condition is on the old register (43_branch_jump.md R191, R194, R209, R210, R213, R228 to R233, R235). -/
def Obligations.LinkingTransfersWithoutSlotAlwaysLink : Prop :=
  ∀ (s : State) (r : Reg) (imm : Half) (o26 : BitVec 26),
    let a := s.getX r
    let near : Word := BitVec.ofInt 32 (s.pc.toInt + 4 * imm.toInt)
    let goes (link : Int) (c : Prop) (target : Word) (t : State) : Prop :=
      t.getX 31 = BitVec.ofInt 32 (s.pc.toInt - 4 + link) ∧ (c → t.pc = target) ∧ (¬ c → t.pc = s.pc)
    Completes (.nal imm) s [.x 31] (fun t => t.getX 31 = BitVec.ofInt 32 (s.pc.toInt - 4 + 8)) ∧
    Completes (.bgezal r imm) s [.x 31, .pc] (goes 8 (0 ≤ a.toInt) near) ∧
    Completes (.balc o26) s [.x 31, .pc] (goes 4 True (BitVec.ofInt 32 (s.pc.toInt + 4 * o26.toInt))) ∧
    Completes (.jialc r imm) s [.x 31, .pc] (goes 4 True (BitVec.ofInt 32 (a.toInt + imm.toInt))) ∧
    Completes (.blezalc r imm) s [.x 31, .pc] (goes 4 (a.toInt ≤ 0) near) ∧
    Completes (.bgezalc r imm) s [.x 31, .pc] (goes 4 (0 ≤ a.toInt) near) ∧
    Completes (.bgtzalc r imm) s [.x 31, .pc] (goes 4 (0 < a.toInt) near) ∧
    Completes (.bltzalc r imm) s [.x 31, .pc] (goes 4 (a.toInt < 0) near) ∧
    Completes (.beqzalc r imm) s [.x 31, .pc] (goes 4 (a = 0) near) ∧
    Completes (.bnezalc r imm) s [.x 31, .pc] (goes 4 (a ≠ 0) near)

/-- The meanings of BAL, JAL, JALR with an aligned target and BLTZAL: the link addr + 8 is written and the slot is owed, with the
target if the transfer is taken; the rest of the step follows in `DelaySlotRunsBeforeTheTransfer`. JALR with a target that is not 4-byte
aligned raises AddressError before the link and the slot (43_branch_jump.md R193, R194, R199, R201, R208, R211; 60_exceptions.md R568;
notes/assumptions/15.md). -/
def Obligations.SlotTransfersLinkAndOweTheSlot : Prop :=
  ∀ (s : State) (rd rs : Reg) (imm : Half) (index : BitVec 26),
    let link : Word := BitVec.ofInt 32 (s.pc.toInt - 4 + 8)
    Completes (.bal imm) s [.x 31, .slot] (fun t => t.getX 31 = link ∧ t.slot = .transfer (s.branchTarget16 imm)) ∧
    Completes (.jal index) s [.x 31, .slot] (fun t => t.getX 31 = link ∧ t.slot = .transfer (s.jumpTarget index)) ∧
    ((s.getX rs).toNat % 4 = 0 →
      Completes (.jalr rd rs) s [.x rd, .slot] fun t => t.getX rd = link ∧ t.slot = .transfer (s.getX rs)) ∧
    ((s.getX rs).toNat % 4 ≠ 0 → Completes (.jalr rd rs) s [.raised] fun t => t.raised = some .addressError) ∧
    Completes (.bltzal rs imm) s [.x 31, .slot] (fun t => t.getX 31 = link ∧
      t.slot = if (s.getX rs).toInt < 0 then .transfer (s.branchTarget16 imm) else .fallThrough)

/-! ## Traps, conditions, no-operations -/

/-- The six traps raise Trap if their comparison holds and otherwise do nothing (47_trap_fatal_noop.md R422 to R427; 60_exceptions.md
R567). -/
def Obligations.TrapsRaiseOnTheirCondition : Prop :=
  ∀ (s : State) (rs rt : Reg) (code : BitVec 10),
    let a := s.getX rs
    let b := s.getX rt
    let traps (i : Instr) (c : Prop) : Prop :=
      (c → Completes i s [.raised] fun t => t.raised = some .trap) ∧ (¬ c → Completes i s [] fun _ => True)
    traps (.tge rs rt code) (b.toInt ≤ a.toInt) ∧ traps (.tgeu rs rt code) (b.toNat ≤ a.toNat) ∧
    traps (.tlt rs rt code) (a.toInt < b.toInt) ∧ traps (.tltu rs rt code) (a.toNat < b.toNat) ∧
    traps (.teq rs rt code) (a = b) ∧ traps (.tne rs rt code) (a ≠ b)

/-- BREAK, SYSCALL, SDBBP and SIGRIE always raise their conditions, whatever their code, and change nothing else
(47_trap_fatal_noop.md R428 to R431; 60_exceptions.md R563 to R566). -/
def Obligations.FatalInstructionsRaiseTheirConditions : Prop :=
  ∀ (s : State) (code : BitVec 20) (rs : Reg) (imm : Half),
    Completes (.brk code) s [.raised] (fun t => t.raised = some .breakpoint) ∧
    Completes (.syscall code) s [.raised] (fun t => t.raised = some .syscall) ∧
    Completes (.sdbbp code) s [.raised] (fun t => t.raised = some .debugBreakpoint) ∧
    Completes (.sigrie rs imm) s [.raised] (fun t => t.raised = some .reservedInstruction)

/-- The barriers, hints, cache, TLB, privileged and exception-return instructions change nothing, not even the register that is a
destination in the architecture (47_trap_fatal_noop.md R432, R433, R435 to R457). -/
def Obligations.NoOperationsChangeNothing : Prop :=
  ∀ (s : State) (r q : Reg) (imm : Half) (o9 : BitVec 9) (g : BitVec 2),
    ∀ i ∈ [Instr.sync r, .synci r imm, .pref r q o9, .prefe r q o9, .cache r q o9, .cachee r q o9, .ginvi r g, .ginvt r g,
        .rdhwr r q, .eret, .eretnc, .deret, .di r, .ei r, .dvp r, .evp r, .wait, .tlbr, .tlbwi, .tlbinv, .tlbinvf, .tlbwr, .tlbp],
      Completes i s [] fun _ => True

/-! ## Loads and stores -/

/-- The loads of a byte, a halfword or a word into a general register, the E forms, LWPC, LL and LLE, inside the memory and at any
alignment (48_load_store_atomic.md R480 to R485, R486 to R490, R494 to R499, R503, R507). -/
def Obligations.LoadsReadMemoryIntoRt : Prop :=
  ∀ (s : State) (rt base : Reg) (off : Half) (o9 : BitVec 9) (imm : BitVec 19),
    let signed (a : Word) (n : Nat) (t : State) : Prop :=
      t.getX rt = BitVec.ofInt 32 (BitVec.ofNat (8 * n) (bigEndian (s.bytesFrom a n))).toInt
    let unsigned (a : Word) (n : Nat) (t : State) : Prop := (t.getX rt).toNat = bigEndian (s.bytesFrom a n)
    (s.accessible (s.ea16 base off) 1 = true → Completes (.lb rt base off) s [.x rt] (signed (s.ea16 base off) 1)) ∧
    (s.accessible (s.ea16 base off) 1 = true → Completes (.lbu rt base off) s [.x rt] (unsigned (s.ea16 base off) 1)) ∧
    (s.accessible (s.ea16 base off) 2 = true → Completes (.lh rt base off) s [.x rt] (signed (s.ea16 base off) 2)) ∧
    (s.accessible (s.ea16 base off) 2 = true → Completes (.lhu rt base off) s [.x rt] (unsigned (s.ea16 base off) 2)) ∧
    (s.accessible (s.ea16 base off) 4 = true → Completes (.lw rt base off) s [.x rt] (unsigned (s.ea16 base off) 4)) ∧
    (s.accessible (s.pcRel19 imm) 4 = true → Completes (.lwpc rt imm) s [.x rt] (unsigned (s.pcRel19 imm) 4)) ∧
    (s.accessible (s.ea9 base o9) 1 = true → Completes (.lbe rt base o9) s [.x rt] (signed (s.ea9 base o9) 1)) ∧
    (s.accessible (s.ea9 base o9) 1 = true → Completes (.lbue rt base o9) s [.x rt] (unsigned (s.ea9 base o9) 1)) ∧
    (s.accessible (s.ea9 base o9) 2 = true → Completes (.lhe rt base o9) s [.x rt] (signed (s.ea9 base o9) 2)) ∧
    (s.accessible (s.ea9 base o9) 2 = true → Completes (.lhue rt base o9) s [.x rt] (unsigned (s.ea9 base o9) 2)) ∧
    (s.accessible (s.ea9 base o9) 4 = true →
      Completes (.lwe rt base o9) s [.x rt] (unsigned (s.ea9 base o9) 4) ∧
      Completes (.ll rt base o9) s [.x rt] (unsigned (s.ea9 base o9) 4) ∧
      Completes (.lle rt base o9) s [.x rt] (unsigned (s.ea9 base o9) 4))

/-- The stores of a byte, a halfword or a word of a general register and the E forms: the bytes at the effective address are the low
bytes of x[rt], most significant first, and no other byte changes (48_load_store_atomic.md R480 to R484, R491 to R493, R500 to R502). -/
def Obligations.StoresWriteTheBytesOfRt : Prop :=
  ∀ (s : State) (rt base : Reg) (off : Half) (o9 : BitVec 9),
    let stored (a : Word) (n : Nat) (t : State) : Prop := bigEndian (t.bytesFrom a n) = (s.getX rt).toNat % 2 ^ (8 * n)
    (s.accessible (s.ea16 base off) 1 = true →
      Completes (.sb rt base off) s (bytePlaces (s.ea16 base off) 1) (stored (s.ea16 base off) 1)) ∧
    (s.accessible (s.ea16 base off) 2 = true →
      Completes (.sh rt base off) s (bytePlaces (s.ea16 base off) 2) (stored (s.ea16 base off) 2)) ∧
    (s.accessible (s.ea16 base off) 4 = true →
      Completes (.sw rt base off) s (bytePlaces (s.ea16 base off) 4) (stored (s.ea16 base off) 4)) ∧
    (s.accessible (s.ea9 base o9) 1 = true →
      Completes (.sbe rt base o9) s (bytePlaces (s.ea9 base o9) 1) (stored (s.ea9 base o9) 1)) ∧
    (s.accessible (s.ea9 base o9) 2 = true →
      Completes (.she rt base o9) s (bytePlaces (s.ea9 base o9) 2) (stored (s.ea9 base o9) 2)) ∧
    (s.accessible (s.ea9 base o9) 4 = true →
      Completes (.swe rt base o9) s (bytePlaces (s.ea9 base o9) 4) (stored (s.ea9 base o9) 4))

/-- SC, SCE, SCWP and SCWPE always store the old register or registers and then write 1 to rt. LLWP and LLWPE: rd receives the word at
the address, rt the word after it, rd last (20_memory.md R61; 48_load_store_atomic.md R484, R485, R504 to R506, R508 to R510;
93_implementation_defined.md U12). -/
def Obligations.ConditionalStoresSucceedAndPairsLoad : Prop :=
  ∀ (s : State) (rt rd base : Reg) (o9 : BitVec 9),
    (s.accessible (s.ea9 base o9) 4 = true → ∀ i ∈ [Instr.sc rt base o9, .sce rt base o9],
      Completes i s (.x rt :: bytePlaces (s.ea9 base o9) 4) fun t =>
        t.getX rt = 1 ∧ bigEndian (t.bytesFrom (s.ea9 base o9) 4) = (s.getX rt).toNat) ∧
    (s.accessible (s.getX base) 8 = true → ∀ i ∈ [Instr.scwp rt rd base, .scwpe rt rd base],
      Completes i s (.x rt :: bytePlaces (s.getX base) 8) fun t =>
        t.getX rt = 1 ∧ bigEndian (t.bytesFrom (s.getX base) 8) = (s.getX rd).toNat * 2 ^ 32 + (s.getX rt).toNat) ∧
    (s.accessible (s.getX base) 8 = true → ∀ i ∈ [Instr.llwp rt rd base, .llwpe rt rd base],
      Completes i s [.x rt, .x rd] fun t => (t.getX rd).toNat = bigEndian (s.bytesFrom (s.getX base) 4) ∧
        (rt ≠ rd → (t.getX rt).toNat = bigEndian (s.bytesFrom (s.getX base + 4#32) 4)))

/-- The loads and stores of the FPU and COP2 data registers; a doubleword is an even pair, the even register its low half (10_state.md
R26, R28; 48_load_store_atomic.md R511 to R514; 49_coprocessor_moves.md R545 to R548). -/
def Obligations.CoprocessorLoadsAndStores : Prop :=
  ∀ (s : State) (r h base : Reg) (off : Half) (o11 : BitVec 11),
    (s.accessible (s.ea16 base off) 4 = true →
      Completes (.lwc1 r base off) s [.f r] fun t => (t.getF r).toNat = bigEndian (s.bytesFrom (s.ea16 base off) 4)) ∧
    (s.accessible (s.ea11 base o11) 4 = true →
      Completes (.lwc2 r base o11) s [.c2d r] fun t => (t.getC2d r).toNat = bigEndian (s.bytesFrom (s.ea11 base o11) 4)) ∧
    (r.toNat % 2 = 0 → h.toNat = r.toNat + 1 → s.accessible (s.ea16 base off) 8 = true →
      Completes (.ldc1 r base off) s [.f r, .f h] fun t =>
        (t.getF h).toNat * 2 ^ 32 + (t.getF r).toNat = bigEndian (s.bytesFrom (s.ea16 base off) 8)) ∧
    (r.toNat % 2 = 0 → h.toNat = r.toNat + 1 → s.accessible (s.ea11 base o11) 8 = true →
      Completes (.ldc2 r base o11) s [.c2d r, .c2d h] fun t =>
        (t.getC2d h).toNat * 2 ^ 32 + (t.getC2d r).toNat = bigEndian (s.bytesFrom (s.ea11 base o11) 8)) ∧
    (s.accessible (s.ea16 base off) 4 = true → Completes (.swc1 r base off) s (bytePlaces (s.ea16 base off) 4) fun t =>
      bigEndian (t.bytesFrom (s.ea16 base off) 4) = (s.getF r).toNat) ∧
    (s.accessible (s.ea11 base o11) 4 = true → Completes (.swc2 r base o11) s (bytePlaces (s.ea11 base o11) 4) fun t =>
      bigEndian (t.bytesFrom (s.ea11 base o11) 4) = (s.getC2d r).toNat) ∧
    (r.toNat % 2 = 0 → h.toNat = r.toNat + 1 → s.accessible (s.ea16 base off) 8 = true →
      Completes (.sdc1 r base off) s (bytePlaces (s.ea16 base off) 8) fun t =>
        bigEndian (t.bytesFrom (s.ea16 base off) 8) = (s.getF h).toNat * 2 ^ 32 + (s.getF r).toNat) ∧
    (r.toNat % 2 = 0 → h.toNat = r.toNat + 1 → s.accessible (s.ea11 base o11) 8 = true →
      Completes (.sdc2 r base o11) s (bytePlaces (s.ea11 base o11) 8) fun t =>
        bigEndian (t.bytesFrom (s.ea11 base o11) 8) = (s.getC2d h).toNat * 2 ^ 32 + (s.getC2d r).toNat)

/-! ## Floating point: which registers an instruction writes and with what -/

/-- Arithmetic of format S writes fd and nothing else, with the operation's result on the old operands; where the result is a NaN that
the spec leaves open it is only known to be quiet (44_fpu_arithmetic.md R250 to R254, R255 to R289 odd rules). -/
def Obligations.SingleArithmeticWritesFd : Prop :=
  ∀ (s : State) (fd fs ft : Reg),
    let a := (s.getF fs).toNat
    let b := (s.getF ft).toNat
    let d := (s.getF fd).toNat
    let gives (i : Instr) (r : FpResult) : Prop := Completes i s [.f fd] fun t => IsResultS s r (t.getF fd)
    gives (.addS fd fs ft) (fpAdd binary32 a b) ∧ gives (.subS fd fs ft) (fpSub binary32 a b) ∧
    gives (.mulS fd fs ft) (fpMul binary32 a b) ∧ gives (.divS fd fs ft) (fpDiv binary32 a b) ∧
    gives (.sqrtS fd fs) (fpSqrt binary32 a) ∧ gives (.recipS fd fs) (fpRecip binary32 a) ∧
    gives (.rsqrtS fd fs) (fpRsqrt binary32 a) ∧ gives (.rintS fd fs) (fpRint binary32 a) ∧
    gives (.maddfS fd fs ft) (fpMaddf binary32 d a b) ∧ gives (.msubfS fd fs ft) (fpMsubf binary32 d a b) ∧
    gives (.minS fd fs ft) (fpMin binary32 a b) ∧ gives (.minaS fd fs ft) (fpMina binary32 a b) ∧
    gives (.maxS fd fs ft) (fpMax binary32 a b) ∧ gives (.maxaS fd fs ft) (fpMaxa binary32 a b)

/-- Arithmetic of format D writes the pair fd and nothing else (44_fpu_arithmetic.md R250 to R254, R256 to R290 even rules). -/
def Obligations.DoubleArithmeticWritesThePair : Prop :=
  ∀ (s : State) (fd fs ft : Reg), fd.toNat % 2 = 0 → fs.toNat % 2 = 0 → ft.toNat % 2 = 0 →
    let a := (s.getF (fs + 1) ++ s.getF fs).toNat
    let b := (s.getF (ft + 1) ++ s.getF ft).toNat
    let d := (s.getF (fd + 1) ++ s.getF fd).toNat
    let gives (i : Instr) (r : FpResult) : Prop :=
      Completes i s [.f fd, .f (fd + 1)] fun t => IsResultD s r (t.getF (fd + 1) ++ t.getF fd)
    gives (.addD fd fs ft) (fpAdd binary64 a b) ∧ gives (.subD fd fs ft) (fpSub binary64 a b) ∧
    gives (.mulD fd fs ft) (fpMul binary64 a b) ∧ gives (.divD fd fs ft) (fpDiv binary64 a b) ∧
    gives (.sqrtD fd fs) (fpSqrt binary64 a) ∧ gives (.recipD fd fs) (fpRecip binary64 a) ∧
    gives (.rsqrtD fd fs) (fpRsqrt binary64 a) ∧ gives (.rintD fd fs) (fpRint binary64 a) ∧
    gives (.maddfD fd fs ft) (fpMaddf binary64 d a b) ∧ gives (.msubfD fd fs ft) (fpMsubf binary64 d a b) ∧
    gives (.minD fd fs ft) (fpMin binary64 a b) ∧ gives (.minaD fd fs ft) (fpMina binary64 a b) ∧
    gives (.maxD fd fs ft) (fpMax binary64 a b) ∧ gives (.maxaD fd fs ft) (fpMaxa binary64 a b)

/-- ABS, NEG, MOV, SEL, SELEQZ, SELNEZ and CLASS of format S copy or inspect bits, a NaN's too (44_fpu_arithmetic.md R252, R265, R267,
R269, R281, R291 to R293). -/
def Obligations.SingleBitOperationsWriteFd : Prop :=
  ∀ (s : State) (fd fs ft : Reg),
    let v := s.getF fs
    let b := s.getF ft
    Completes (.absS fd fs) s [.f fd] (fun t => ∀ k, k < 32 → (t.getF fd).getLsbD k = (v.getLsbD k && decide (k ≠ 31))) ∧
    Completes (.negS fd fs) s [.f fd] (fun t => ∀ k, k < 32 → (t.getF fd).getLsbD k = (v.getLsbD k ^^ decide (k = 31))) ∧
    Completes (.movS fd fs) s [.f fd] (fun t => t.getF fd = v) ∧
    Completes (.selS fd fs ft) s [.f fd] (fun t => t.getF fd = if (s.getF fd).toNat % 2 = 0 then v else b) ∧
    Completes (.seleqzS fd fs ft) s [.f fd] (fun t => t.getF fd = if b.toNat % 2 = 0 then v else 0) ∧
    Completes (.selnezS fd fs ft) s [.f fd] (fun t => t.getF fd = if b.toNat % 2 = 0 then 0 else v) ∧
    Completes (.classS fd fs) s [.f fd] (fun t => t.getF fd =
      let e := v.extractLsb' 23 8
      let neg := v.getLsbD 31
      if e = 0xFF#8 then
        (if v.extractLsb' 0 23 = 0 then (if neg then 0x004#32 else 0x040#32) else if v.getLsbD 22 then 0x002#32 else 0x001#32)
      else if e = 0#8 then
        (if v.extractLsb' 0 23 = 0 then (if neg then 0x020#32 else 0x200#32) else if neg then 0x010#32 else 0x100#32)
      else if neg then 0x008#32 else 0x080#32)

/-- The same of format D, on even pairs (44_fpu_arithmetic.md R252, R266, R268, R270, R282, R294 to R296). -/
def Obligations.DoubleBitOperationsWriteThePair : Prop :=
  ∀ (s : State) (fd fs ft : Reg), fd.toNat % 2 = 0 → fs.toNat % 2 = 0 →
    let v := s.getF (fs + 1) ++ s.getF fs
    let b := s.getF (ft + 1) ++ s.getF ft
    let gives (i : Instr) (q : DWord → Prop) : Prop := Completes i s [.f fd, .f (fd + 1)] fun t => q (t.getF (fd + 1) ++ t.getF fd)
    gives (.absD fd fs) (fun w => ∀ k, k < 64 → w.getLsbD k = (v.getLsbD k && decide (k ≠ 63))) ∧
    gives (.negD fd fs) (fun w => ∀ k, k < 64 → w.getLsbD k = (v.getLsbD k ^^ decide (k = 63))) ∧
    gives (.movD fd fs) (fun w => w = v) ∧
    (ft.toNat % 2 = 0 → gives (.selD fd fs ft) fun w => w = if (s.getF fd).toNat % 2 = 0 then v else b) ∧
    (ft.toNat % 2 = 0 → gives (.seleqzD fd fs ft) fun w => w = if b.toNat % 2 = 0 then v else 0) ∧
    (ft.toNat % 2 = 0 → gives (.selnezD fd fs ft) fun w => w = if b.toNat % 2 = 0 then 0 else v) ∧
    gives (.classD fd fs) (fun w => w =
      let e := v.extractLsb' 52 11
      let neg := v.getLsbD 63
      if e = 0x7FF#11 then
        (if v.extractLsb' 0 52 = 0 then (if neg then 0x004#64 else 0x040#64) else if v.getLsbD 51 then 0x002#64 else 0x001#64)
      else if e = 0#11 then
        (if v.extractLsb' 0 52 = 0 then (if neg then 0x020#64 else 0x200#64) else if neg then 0x010#64 else 0x100#64)
      else if neg then 0x008#64 else 0x080#64)

/-- The 22 comparisons of format S with their condition codes write the mask of their predicate to fd; a signalling one (cond[3])
whose operands are unordered raises as well, after the write (45_fpu_compare.md R320 to R322, R323 to R365; 60_exceptions.md R569). -/
def Obligations.SingleComparisonsWriteMasks : Prop :=
  ∀ (s : State) (fd fs ft : Reg),
    let a := (s.getF fs).toNat
    let b := (s.getF ft).toNat
    let un := fpIsNaN binary32 a || fpIsNaN binary32 b
    ∀ c ∈ [(0#5, Instr.cmpAfS fd fs ft), (1#5, .cmpUnS fd fs ft), (2#5, .cmpEqS fd fs ft), (3#5, .cmpUeqS fd fs ft),
        (4#5, .cmpLtS fd fs ft), (5#5, .cmpUltS fd fs ft), (6#5, .cmpLeS fd fs ft), (7#5, .cmpUleS fd fs ft),
        (8#5, .cmpSafS fd fs ft), (9#5, .cmpSunS fd fs ft), (10#5, .cmpSeqS fd fs ft), (11#5, .cmpSueqS fd fs ft),
        (12#5, .cmpSltS fd fs ft), (13#5, .cmpSultS fd fs ft), (14#5, .cmpSleS fd fs ft), (15#5, .cmpSuleS fd fs ft),
        (17#5, .cmpOrS fd fs ft), (18#5, .cmpUneS fd fs ft), (19#5, .cmpNeS fd fs ft), (25#5, .cmpSorS fd fs ft),
        (26#5, .cmpSuneS fd fs ft), (27#5, .cmpSneS fd fs ft)],
      let p := (c.1.getLsbD 0 && un) || (c.1.getLsbD 1 && fpEqual binary32 a b) || (c.1.getLsbD 2 && fpLess binary32 a b)
      let mask : Word := if p = c.1.getLsbD 4 then 0 else BitVec.allOnes 32
      (c.1.getLsbD 3 = false ∨ un = false → Completes c.2 s [.f fd] fun t => t.getF fd = mask) ∧
      (c.1.getLsbD 3 = true → un = true → Completes c.2 s [.f fd, .raised] fun t =>
        t.getF fd = mask ∧ t.raised = some .invalidFloatingPointOperation)

/-- The 22 comparisons of format D, on even pairs (45_fpu_compare.md R320 to R322, R324 to R366; 60_exceptions.md R569). -/
def Obligations.DoubleComparisonsWriteMasks : Prop :=
  ∀ (s : State) (fd fs ft : Reg), fd.toNat % 2 = 0 → fs.toNat % 2 = 0 → ft.toNat % 2 = 0 →
    let a := (s.getF (fs + 1) ++ s.getF fs).toNat
    let b := (s.getF (ft + 1) ++ s.getF ft).toNat
    let un := fpIsNaN binary64 a || fpIsNaN binary64 b
    ∀ c ∈ [(0#5, Instr.cmpAfD fd fs ft), (1#5, .cmpUnD fd fs ft), (2#5, .cmpEqD fd fs ft), (3#5, .cmpUeqD fd fs ft),
        (4#5, .cmpLtD fd fs ft), (5#5, .cmpUltD fd fs ft), (6#5, .cmpLeD fd fs ft), (7#5, .cmpUleD fd fs ft),
        (8#5, .cmpSafD fd fs ft), (9#5, .cmpSunD fd fs ft), (10#5, .cmpSeqD fd fs ft), (11#5, .cmpSueqD fd fs ft),
        (12#5, .cmpSltD fd fs ft), (13#5, .cmpSultD fd fs ft), (14#5, .cmpSleD fd fs ft), (15#5, .cmpSuleD fd fs ft),
        (17#5, .cmpOrD fd fs ft), (18#5, .cmpUneD fd fs ft), (19#5, .cmpNeD fd fs ft), (25#5, .cmpSorD fd fs ft),
        (26#5, .cmpSuneD fd fs ft), (27#5, .cmpSneD fd fs ft)],
      let p := (c.1.getLsbD 0 && un) || (c.1.getLsbD 1 && fpEqual binary64 a b) || (c.1.getLsbD 2 && fpLess binary64 a b)
      let mask : DWord := if p = c.1.getLsbD 4 then 0 else BitVec.allOnes 64
      (c.1.getLsbD 3 = false ∨ un = false → Completes c.2 s [.f fd, .f (fd + 1)] fun t => t.getF (fd + 1) ++ t.getF fd = mask) ∧
      (c.1.getLsbD 3 = true → un = true → Completes c.2 s [.f fd, .f (fd + 1), .raised] fun t =>
        t.getF (fd + 1) ++ t.getF fd = mask ∧ t.raised = some .invalidFloatingPointOperation)

/-- Conversions to a floating-point format (46_fpu_convert_branch.md R380, R381 to R386). -/
def Obligations.ConversionsToFloatWriteFd : Prop :=
  ∀ (s : State) (fd fs : Reg),
    let v := s.getF fs
    let d := s.getF (fs + 1) ++ s.getF fs
    let single (i : Instr) (r : FpResult) : Prop := Completes i s [.f fd] fun t => IsResultS s r (t.getF fd)
    let double (i : Instr) (r : FpResult) : Prop :=
      Completes i s [.f fd, .f (fd + 1)] fun t => IsResultD s r (t.getF (fd + 1) ++ t.getF fd)
    single (.cvtSW fd fs) (fpOfInt binary32 v.toInt) ∧
    (fs.toNat % 2 = 0 → single (.cvtSD fd fs) (fpConvert binary64 binary32 d.toNat) ∧ single (.cvtSL fd fs) (fpOfInt binary32 d.toInt)) ∧
    (fd.toNat % 2 = 0 → double (.cvtDS fd fs) (fpConvert binary32 binary64 v.toNat) ∧ double (.cvtDW fd fs) (fpOfInt binary64 v.toInt)) ∧
    (fd.toNat % 2 = 0 → fs.toNat % 2 = 0 → double (.cvtDL fd fs) (fpOfInt binary64 d.toInt))

/-- Conversions to an integer format, in the direction that the mnemonic names (46_fpu_convert_branch.md R380, R387 to R406). -/
def Obligations.ConversionsToIntegerWriteFd : Prop :=
  ∀ (s : State) (fd fs : Reg),
    let v := (s.getF fs).toNat
    let d := (s.getF (fs + 1) ++ s.getF fs).toNat
    let word (i : Instr) (n : Int) : Prop := Completes i s [.f fd] fun t => t.getF fd = BitVec.ofInt 32 n
    let long (i : Instr) (n : Int) : Prop :=
      Completes i s [.f fd, .f (fd + 1)] fun t => t.getF (fd + 1) ++ t.getF fd = BitVec.ofInt 64 n
    (word (.cvtWS fd fs) (fpToInt binary32 .nearestEven 32 v) ∧ word (.roundWS fd fs) (fpToInt binary32 .nearestEven 32 v) ∧
      word (.truncWS fd fs) (fpToInt binary32 .towardZero 32 v) ∧ word (.ceilWS fd fs) (fpToInt binary32 .up 32 v) ∧
      word (.floorWS fd fs) (fpToInt binary32 .down 32 v)) ∧
    (fs.toNat % 2 = 0 →
      word (.cvtWD fd fs) (fpToInt binary64 .nearestEven 32 d) ∧ word (.roundWD fd fs) (fpToInt binary64 .nearestEven 32 d) ∧
      word (.truncWD fd fs) (fpToInt binary64 .towardZero 32 d) ∧ word (.ceilWD fd fs) (fpToInt binary64 .up 32 d) ∧
      word (.floorWD fd fs) (fpToInt binary64 .down 32 d)) ∧
    (fd.toNat % 2 = 0 →
      long (.cvtLS fd fs) (fpToInt binary32 .nearestEven 64 v) ∧ long (.roundLS fd fs) (fpToInt binary32 .nearestEven 64 v) ∧
      long (.truncLS fd fs) (fpToInt binary32 .towardZero 64 v) ∧ long (.ceilLS fd fs) (fpToInt binary32 .up 64 v) ∧
      long (.floorLS fd fs) (fpToInt binary32 .down 64 v)) ∧
    (fd.toNat % 2 = 0 → fs.toNat % 2 = 0 →
      long (.cvtLD fd fs) (fpToInt binary64 .nearestEven 64 d) ∧ long (.roundLD fd fs) (fpToInt binary64 .nearestEven 64 d) ∧
      long (.truncLD fd fs) (fpToInt binary64 .towardZero 64 d) ∧ long (.ceilLD fd fs) (fpToInt binary64 .up 64 d) ∧
      long (.floorLD fd fs) (fpToInt binary64 .down 64 d))

/-- A 64-bit view named with an odd register: the step is refused, as the spec asks, whatever else the instruction names (10_state.md
R26, R28; 44_fpu_arithmetic.md R250; 93_implementation_defined.md U4; notes/assumptions/12.md). -/
def Obligations.OddPairsAreRefused : Prop :=
  ∀ (s : State) (o r q base : Reg) (off : Half) (o11 : BitVec 11), o.toNat % 2 = 1 →
    (∀ mk ∈ [Instr.addD, Instr.subD, Instr.mulD, Instr.divD, Instr.maddfD, Instr.msubfD, Instr.minD, Instr.minaD, Instr.maxD,
        Instr.maxaD, Instr.selD, Instr.seleqzD, Instr.selnezD, Instr.cmpAfD, Instr.cmpUnD, Instr.cmpEqD, Instr.cmpUeqD, Instr.cmpLtD,
        Instr.cmpUltD, Instr.cmpLeD, Instr.cmpUleD, Instr.cmpSafD, Instr.cmpSunD, Instr.cmpSeqD, Instr.cmpSueqD, Instr.cmpSltD,
        Instr.cmpSultD, Instr.cmpSleD, Instr.cmpSuleD, Instr.cmpOrD, Instr.cmpUneD, Instr.cmpNeD, Instr.cmpSorD, Instr.cmpSuneD,
        Instr.cmpSneD],
      exec (mk o r q) s = .refused .oddPair ∧ exec (mk r o q) s = .refused .oddPair ∧ exec (mk r q o) s = .refused .oddPair) ∧
    (∀ mk ∈ [Instr.sqrtD, Instr.recipD, Instr.rsqrtD, Instr.rintD, Instr.absD, Instr.negD, Instr.movD, Instr.classD, Instr.cvtDL,
        Instr.cvtLD, Instr.roundLD, Instr.truncLD, Instr.ceilLD, Instr.floorLD],
      exec (mk o r) s = .refused .oddPair ∧ exec (mk r o) s = .refused .oddPair) ∧
    (∀ mk ∈ [Instr.cvtSD, Instr.cvtSL, Instr.cvtWD, Instr.roundWD, Instr.truncWD, Instr.ceilWD, Instr.floorWD, Instr.mfhc1,
        Instr.mthc1, Instr.mfhc2, Instr.mthc2],
      exec (mk r o) s = .refused .oddPair) ∧
    (∀ mk ∈ [Instr.cvtDS, Instr.cvtDW, Instr.cvtLS, Instr.roundLS, Instr.truncLS, Instr.ceilLS, Instr.floorLS],
      exec (mk o r) s = .refused .oddPair) ∧
    (∀ mk ∈ [Instr.ldc1, Instr.sdc1], exec (mk o base off) s = .refused .oddPair) ∧
    (∀ mk ∈ [Instr.ldc2, Instr.sdc2], exec (mk o base o11) s = .refused .oddPair)

/-! ## Floating point: what the operations compute -/

/-- The sum, difference and product of two numbers are the exact real results rounded once, to nearest with ties to even; where the
exact result is 0 it is a zero with the sign that IEEE 754 gives it. With an infinity the result is the infinity of the sum, of the
difference or of the product (44_fpu_arithmetic.md R251, R255 to R260); the invalid cases are in `NaNsAndInvalidOperations`. -/
def Obligations.AddSubMulRoundOnce : Prop :=
  ∀ fmt ∈ [binary32, binary64], ∀ a b : Nat,
    let x := fmt.value a
    let y := fmt.value b
    let inf (neg : Bool) : FpResult := .bits (fmt.infinity neg)
    let zero (neg : Bool) : FpResult := .bits (fmt.zero neg)
    (fmt.isFinite a → fmt.isFinite b →
      (x + y ≠ 0 → ∃ p, fpAdd fmt a b = .bits p ∧ IsRounded fmt (x + y) p) ∧
      (x + y = 0 → fpAdd fmt a b = zero (fmt.signBit a && fmt.signBit b)) ∧
      (x - y ≠ 0 → ∃ p, fpSub fmt a b = .bits p ∧ IsRounded fmt (x - y) p) ∧
      (x - y = 0 → fpSub fmt a b = zero (fmt.signBit a && !fmt.signBit b)) ∧
      (x * y ≠ 0 → ∃ p, fpMul fmt a b = .bits p ∧ IsRounded fmt (x * y) p) ∧
      (x * y = 0 → fpMul fmt a b = zero (fmt.signBit a ^^ fmt.signBit b))) ∧
    (∀ n, fmt.isFinite a →
      fpAdd fmt a (fmt.infinity n) = inf n ∧ fpAdd fmt (fmt.infinity n) a = inf n ∧
      fpSub fmt a (fmt.infinity n) = inf (!n) ∧ fpSub fmt (fmt.infinity n) a = inf n) ∧
    (∀ n, fpAdd fmt (fmt.infinity n) (fmt.infinity n) = inf n ∧ fpSub fmt (fmt.infinity n) (fmt.infinity (!n)) = inf n) ∧
    (fmt.InfiniteProduct a b → fpMul fmt a b = inf (fmt.signBit a ^^ fmt.signBit b))

/-- The quotient of two numbers, the divisor not 0, the square root of a positive number and the reciprocal of a number that is not 0 are
the exact real results rounded once; that the reciprocal is exact so far is the spec's own choice (93_implementation_defined.md U10;
notes/assumptions/18.md). RSQRT rounds TWICE, by the same choice: it is the rounded reciprocal of the rounded square root. A number by
0 is an infinity and 0 by a number a zero, with the sign rule; the root of a zero is that zero; the reciprocals of zeros are infinities
and those of infinities zeros (44_fpu_arithmetic.md R251, R261 to R264, R271 to R274). The invalid cases are in
`NaNsAndInvalidOperations`. -/
def Obligations.DivSqrtRecipRoundOnce : Prop :=
  ∀ fmt ∈ [binary32, binary64], ∀ a b : Nat,
    let x := fmt.value a
    let y := fmt.value b
    let inf (neg : Bool) : FpResult := .bits (fmt.infinity neg)
    let zero (neg : Bool) : FpResult := .bits (fmt.zero neg)
    let sign := fmt.signBit a ^^ fmt.signBit b
    (fmt.isFinite a → fmt.isFinite b →
      (y ≠ 0 → x ≠ 0 → ∃ p, fpDiv fmt a b = .bits p ∧ IsRounded fmt (x / y) p) ∧
      (y ≠ 0 → x = 0 → fpDiv fmt a b = zero sign) ∧
      (y = 0 → x ≠ 0 → fpDiv fmt a b = inf sign)) ∧
    (∀ n, fmt.isFinite a →
      fpDiv fmt (fmt.infinity n) a = inf (n ^^ fmt.signBit a) ∧ fpDiv fmt a (fmt.infinity n) = zero (fmt.signBit a ^^ n)) ∧
    (fmt.isFinite a →
      (0 < x → ∃ p, fpSqrt fmt a = .bits p ∧ IsRounded fmt (Real.sqrt x) p) ∧
      (x ≠ 0 → ∃ p, fpRecip fmt a = .bits p ∧ IsRounded fmt (1 / x) p) ∧
      (0 < x → ∃ t p, fpSqrt fmt a = .bits t ∧ fpRsqrt fmt a = .bits p ∧ IsRounded fmt (1 / fmt.value t) p) ∧
      (x = 0 → fpSqrt fmt a = .bits a ∧ fpRecip fmt a = inf (fmt.signBit a) ∧ fpRsqrt fmt a = inf (fmt.signBit a))) ∧
    fpSqrt fmt (fmt.infinity false) = inf false ∧ fpRsqrt fmt (fmt.infinity false) = zero false ∧
    ∀ n, fpRecip fmt (fmt.infinity n) = zero n

/-- The fused multiply-add and multiply-subtract of three numbers round the exact real result once, which is the spec's own choice
(93_implementation_defined.md U10; notes/assumptions/18.md); where it is 0 the result is +0 unless both the addend and the product (for
the subtraction, the negated product) are -0. An infinite addend or product gives its infinity, the product of MSUBF negated
(44_fpu_arithmetic.md R251, R275 to R278); the invalid cases are in `NaNsAndInvalidOperations`. -/
def Obligations.FusedOperationsRoundOnce : Prop :=
  ∀ fmt ∈ [binary32, binary64], ∀ c a b : Nat,
    let z := fmt.value c
    let x := fmt.value a
    let y := fmt.value b
    let inf (neg : Bool) : FpResult := .bits (fmt.infinity neg)
    let zero (neg : Bool) : FpResult := .bits (fmt.zero neg)
    let sign := fmt.signBit a ^^ fmt.signBit b
    (fmt.isFinite c → fmt.isFinite a → fmt.isFinite b →
      (z + x * y ≠ 0 → ∃ p, fpMaddf fmt c a b = .bits p ∧ IsRounded fmt (z + x * y) p) ∧
      (z + x * y = 0 → fpMaddf fmt c a b = zero (fmt.signBit c && sign)) ∧
      (z - x * y ≠ 0 → ∃ p, fpMsubf fmt c a b = .bits p ∧ IsRounded fmt (z - x * y) p) ∧
      (z - x * y = 0 → fpMsubf fmt c a b = zero (fmt.signBit c && !sign))) ∧
    (∀ n, fmt.isFinite a → fmt.isFinite b →
      fpMaddf fmt (fmt.infinity n) a b = inf n ∧ fpMsubf fmt (fmt.infinity n) a b = inf n) ∧
    (fmt.InfiniteProduct a b →
      (fmt.isFinite c → fpMaddf fmt c a b = inf sign ∧ fpMsubf fmt c a b = inf (!sign)) ∧
      fpMaddf fmt (fmt.infinity sign) a b = inf sign ∧ fpMsubf fmt (fmt.infinity (!sign)) a b = inf (!sign))

/-- A number converted between the two formats and an integer converted to a format are rounded once; a number of format S is
represented exactly in format D. A zero keeps its sign, the integer 0 gives +0, an infinity stays that infinity, and a NaN gives some
quiet NaN (44_fpu_arithmetic.md R251, R252; 46_fpu_convert_branch.md R380 to R386). -/
def Obligations.ConversionsRoundOnce : Prop :=
  (∀ a, binary64.isFinite a →
    (binary64.value a ≠ 0 → ∃ p, fpConvert binary64 binary32 a = .bits p ∧ IsRounded binary32 (binary64.value a) p) ∧
    (binary64.value a = 0 → fpConvert binary64 binary32 a = .bits (binary32.zero (binary64.signBit a)))) ∧
  (∀ a, binary32.isFinite a → ∃ p, fpConvert binary32 binary64 a = .bits p ∧ binary64.isFinite p ∧
    binary64.value p = binary32.value a ∧ binary64.signBit p = binary32.signBit a) ∧
  (∀ n, fpConvert binary64 binary32 (binary64.infinity n) = .bits (binary32.infinity n) ∧
    fpConvert binary32 binary64 (binary32.infinity n) = .bits (binary64.infinity n)) ∧
  (∀ a, (fpIsNaN binary64 a = true → fpConvert binary64 binary32 a = .anyNaN) ∧
    (fpIsNaN binary32 a = true → fpConvert binary32 binary64 a = .anyNaN)) ∧
  (∀ fmt ∈ [binary32, binary64], fpOfInt fmt 0 = .bits (fmt.zero false) ∧
    ∀ n : Int, n ≠ 0 → ∃ p, fpOfInt fmt n = .bits p ∧ IsRounded fmt (n : ℝ) p)

/-- A number converted to an integer of 32 or 64 bits is rounded in the named direction and then clamped; a NaN gives 0 and an infinity
the largest or the smallest integer (46_fpu_convert_branch.md R380). -/
def Obligations.IntegerConversionsRoundAndClamp : Prop :=
  ∀ fmt ∈ [binary32, binary64], ∀ w ∈ [32, 64], ∀ a : Nat,
    let x := fmt.value a
    let clamp (n : Int) : Int := max (-2 ^ (w - 1)) (min (2 ^ (w - 1) - 1) n)
    let inf := (2 ^ fmt.expBits - 1) * 2 ^ fmt.fracBits
    (fmt.isFinite a → fpToInt fmt .down w a = clamp ⌊x⌋ ∧ fpToInt fmt .up w a = clamp ⌈x⌉ ∧
      fpToInt fmt .towardZero w a = clamp (if 0 ≤ x then ⌊x⌋ else ⌈x⌉) ∧
      ∃ n : Int, |x - n| ≤ 1 / 2 ∧ (|x - n| = 1 / 2 → Even n) ∧ fpToInt fmt .nearestEven w a = clamp n) ∧
    ∀ dir, fpToInt fmt dir w inf = 2 ^ (w - 1) - 1 ∧ fpToInt fmt dir w (2 ^ (fmt.width - 1) + inf) = -2 ^ (w - 1) ∧
      (fpIsNaN fmt a = true → fpToInt fmt dir w a = 0)

/-- The relations of the comparisons are the relations of the real numbers, with the infinities at the ends and one zero; a NaN is
unordered with everything (45_fpu_compare.md R320). MIN and MAX of two numbers pick by that order (44_fpu_arithmetic.md R283, R287). -/
def Obligations.ComparisonsFollowTheValues : Prop :=
  ∀ fmt ∈ [binary32, binary64], ∀ a b : Nat, a < 2 ^ fmt.width → b < 2 ^ fmt.width →
    let inf := (2 ^ fmt.expBits - 1) * 2 ^ fmt.fracBits
    let ext (p : Nat) : EReal := if p = inf then ⊤ else if p = 2 ^ (fmt.width - 1) + inf then ⊥ else (fmt.value p : EReal)
    (fpIsNaN fmt a = true ↔ ¬ fmt.isFinite a ∧ a % 2 ^ fmt.fracBits ≠ 0) ∧
    ((fpIsNaN fmt a || fpIsNaN fmt b) = true → fpEqual fmt a b = false ∧ fpLess fmt a b = false) ∧
    ((fpIsNaN fmt a || fpIsNaN fmt b) = false →
      (fpEqual fmt a b = true ↔ ext a = ext b) ∧ (fpLess fmt a b = true ↔ ext a < ext b) ∧
      (ext a < ext b → fpMin fmt a b = .bits a ∧ fpMin fmt b a = .bits a ∧ fpMax fmt a b = .bits b ∧ fpMax fmt b a = .bits b))

/-- RINT gives the nearest integral value, ties to the even one, with the sign of the operand; infinities pass through. MINA and MAXA
pick by magnitude and, where the magnitudes are equal, as MIN and MAX do, which order -0 below +0 (44_fpu_arithmetic.md R279, R280,
R283 to R290). -/
def Obligations.RintAndMagnitudeSelections : Prop :=
  ∀ fmt ∈ [binary32, binary64], ∀ a b : Nat, fmt.isFinite a →
    let x := fmt.value a
    let y := fmt.value b
    let inf := (2 ^ fmt.expBits - 1) * 2 ^ fmt.fracBits
    let negative := 2 ^ (fmt.width - 1)
    (∃ p, fpRint fmt a = .bits p ∧ fmt.isFinite p ∧ fmt.signBit p = fmt.signBit a ∧
      ∃ n : Int, fmt.value p = n ∧ |x - n| ≤ 1 / 2 ∧ (|x - n| = 1 / 2 → Even n)) ∧
    fpRint fmt inf = .bits inf ∧ fpRint fmt (negative + inf) = .bits (negative + inf) ∧
    (fmt.isFinite b → |x| < |y| → fpMina fmt a b = .bits a ∧ fpMina fmt b a = .bits a ∧ fpMaxa fmt a b = .bits b ∧
      fpMaxa fmt b a = .bits b) ∧
    (fmt.isFinite b → |x| = |y| → fpMina fmt a b = fpMin fmt a b ∧ fpMaxa fmt a b = fpMax fmt a b) ∧
    (∀ i ∈ [inf, negative + inf], fpMina fmt a i = .bits a ∧ fpMina fmt i a = .bits a ∧ fpMaxa fmt a i = .bits i ∧
      fpMaxa fmt i a = .bits i) ∧
    fpMin fmt 0 negative = .bits negative ∧ fpMin fmt negative 0 = .bits negative ∧ fpMax fmt 0 negative = .bits 0 ∧
    fpMax fmt negative 0 = .bits 0

/-- The NaN rules: a NaN operand of an arithmetic operation gives some quiet NaN; an invalid operation gives the quiet NaN of the
parameter, in a fused multiply-add infinity times 0 whatever the addend; MIN, MAX, MINA and MAXA ignore one NaN (44_fpu_arithmetic.md
R252, R261 to R264, R273 to R278, R283 to R290; 93_implementation_defined.md U5). Three clauses are the model's reading of the words
`a quiet NaN`: the parameter for RSQRT of a negative number, some quiet NaN for a NaN minuend of MSUBF even where the product is
infinity times 0 (notes/assumptions/9.md), and some quiet NaN for MIN, MAX, MINA and MAXA of two NaNs (notes/assumptions/10.md). -/
def Obligations.NaNsAndInvalidOperations : Prop :=
  ∀ fmt ∈ [binary32, binary64], ∀ a b c : Nat,
    let isZero (p : Nat) : Prop := ∃ n, p = fmt.zero n
    let isInf (p : Nat) : Prop := ∃ n, p = fmt.infinity n
    let sign := fmt.signBit a ^^ fmt.signBit b
    (fpIsNaN fmt a = true ∨ fpIsNaN fmt b = true →
      fpAdd fmt a b = .anyNaN ∧ fpSub fmt a b = .anyNaN ∧ fpMul fmt a b = .anyNaN ∧ fpDiv fmt a b = .anyNaN ∧
      fpMaddf fmt c a b = .anyNaN ∧ fpMsubf fmt c a b = .anyNaN) ∧
    (fpIsNaN fmt a = true → fpSqrt fmt a = .anyNaN ∧ fpRecip fmt a = .anyNaN ∧ fpRsqrt fmt a = .anyNaN ∧ fpRint fmt a = .anyNaN) ∧
    (fpIsNaN fmt c = true → fpMsubf fmt c a b = .anyNaN ∧
      (fmt.isFinite a ∧ fmt.isFinite b ∨ fmt.InfiniteProduct a b → fpMaddf fmt c a b = .anyNaN)) ∧
    (fpIsNaN fmt a = true → fpIsNaN fmt b = false →
      ∀ op ∈ [fpMin, fpMax, fpMina, fpMaxa], op fmt a b = .bits b ∧ op fmt b a = .bits b) ∧
    (fpIsNaN fmt a = true → fpIsNaN fmt b = true → ∀ op ∈ [fpMin, fpMax, fpMina, fpMaxa], op fmt a b = .anyNaN) ∧
    (∀ n, fpAdd fmt (fmt.infinity n) (fmt.infinity (!n)) = .invalid ∧ fpSub fmt (fmt.infinity n) (fmt.infinity n) = .invalid) ∧
    (isInf a ∧ isZero b ∨ isZero a ∧ isInf b →
      fpMul fmt a b = .invalid ∧ fpMaddf fmt c a b = .invalid ∧ (fpIsNaN fmt c = false → fpMsubf fmt c a b = .invalid)) ∧
    (isInf a ∧ isInf b ∨ isZero a ∧ isZero b → fpDiv fmt a b = .invalid) ∧
    (fmt.InfiniteProduct a b →
      fpMaddf fmt (fmt.infinity (!sign)) a b = .invalid ∧ fpMsubf fmt (fmt.infinity sign) a b = .invalid) ∧
    (fmt.isFinite a → fmt.value a < 0 → fpSqrt fmt a = .invalid ∧ fpRsqrt fmt a = .invalid) ∧
    fpSqrt fmt (fmt.infinity true) = .invalid ∧ fpRsqrt fmt (fmt.infinity true) = .invalid

/-! ## The whole machine -/

/-- Which instruction may raise which condition: the table of 60_exceptions.md R561, with ADD under its parameter (R570). What a
condition leaves changed is the condition itself and, for a signalling comparison, its destination (10_state.md R40; R573). -/
def Obligations.OnlyTheNamedInstructionsRaise : Prop :=
  ∀ (i : Instr) (s t : State) (c : Condition), s.raised = none → exec i s = .next t → t.raised = some c →
    match c with
    | .unknownOpcode => False
    | .breakpoint => (∃ code, i = .brk code) ∧ OnlyChanges [.raised] s t
    | .syscall => (∃ code, i = .syscall code) ∧ OnlyChanges [.raised] s t
    | .debugBreakpoint => (∃ code, i = .sdbbp code) ∧ OnlyChanges [.raised] s t
    | .reservedInstruction => (∃ r imm, i = .sigrie r imm) ∧ OnlyChanges [.raised] s t
    | .trap => (∃ r q code, i ∈ [Instr.tge r q code, .tgeu r q code, .tlt r q code, .tltu r q code, .teq r q code, .tne r q code]) ∧
        OnlyChanges [.raised] s t
    | .addressError => (∃ r q, i = .jalr r q) ∧ OnlyChanges [.raised] s t
    | .integerOverflow =>
        (∃ r p q, i = .sub r p q ∨ i = .add r p q ∧ s.params.addOverflowTraps = true) ∧ OnlyChanges [.raised] s t
    | .invalidFloatingPointOperation => ∃ r p q,
        (i ∈ [Instr.cmpSafS r p q, .cmpSunS r p q, .cmpSeqS r p q, .cmpSueqS r p q, .cmpSltS r p q, .cmpSultS r p q, .cmpSleS r p q,
            .cmpSuleS r p q, .cmpSorS r p q, .cmpSuneS r p q, .cmpSneS r p q] ∧ OnlyChanges [.f r, .raised] s t) ∨
        (i ∈ [Instr.cmpSafD r p q, .cmpSunD r p q, .cmpSeqD r p q, .cmpSueqD r p q, .cmpSltD r p q, .cmpSultD r p q, .cmpSleD r p q,
            .cmpSuleD r p q, .cmpSorD r p q, .cmpSuneD r p q, .cmpSneD r p q] ∧ OnlyChanges [.f r, .f (r + 1), .raised] s t)

/-- Who writes what: the FPU control file only CTC1, the COP2 control file only CTC2, the COP2 data file only MTC2, MTHC2, LWC2 and
LDC2, the shadow file only WRPGPR, HI and LO only the accumulator instructions, memory only the stores of the table of access widths;
nothing writes copBit or a parameter (10_state.md R27 to R31 and the state table; 20_memory.md R56; 42_multiply_divide.md R165). -/
def Obligations.SpecialStateHasNamedWriters : Prop :=
  ∀ (i : Instr) (s t : State), exec i s = .next t →
    t.copBit = s.copBit ∧ t.params = s.params ∧
    (t.fcr ≠ s.fcr → ∃ r q, i = .ctc1 r q) ∧ (t.c2c ≠ s.c2c → ∃ r q, i = .ctc2 r q) ∧ (t.sx ≠ s.sx → ∃ r q, i = .wrpgpr r q) ∧
    (t.c2d ≠ s.c2d → ∃ r q o, i = .mtc2 r q ∨ i = .mthc2 r q ∨ i = .lwc2 r q o ∨ i = .ldc2 r q o) ∧
    (t.hi ≠ s.hi ∨ t.lo ≠ s.lo → ∃ r q, i ∈ [Instr.mult r q, .multu r q, .div r q, .divu r q, .madd r q, .maddu r q, .msub r q,
      .msubu r q, .mthi r, .mtlo r]) ∧
    (t.mem ≠ s.mem → ∃ r q b o o9 o11, i ∈ [Instr.sb r b o, .sbe r b o9, .sh r b o, .she r b o9, .sw r b o, .swe r b o9, .sc r b o9,
      .sce r b o9, .swc1 r b o, .swc2 r b o11, .sdc1 r b o, .sdc2 r b o11, .scwp r q b, .scwpe r q b])

end Statements
end

