-- ==== Sys2Proof/Laws/Encoding.lean ====
section
/-! SUPPORT. What each field of a packed word is (30_encoding.md R71, R72): the lemmas by which decoding a word that was packed
reduces to its fields. -/

namespace Sys2Proof

section Fields

variable (op : BitVec 6) (rs rt rd sa : Reg) (fn : BitVec 6) (imm : Half) (index : BitVec 26) (off9 : BitVec 9) (fn7 : BitVec 7)
  (sel : BitVec 2) (imm19 : BitVec 19) (off11 : BitVec 11) (code20 : BitVec 20) (code10 : BitVec 10)

@[simp] theorem opcodeF_packR : opcodeF (packR op rs rt rd sa fn) = op := by
  unfold opcodeF packR
  grind
@[simp] theorem rsF_packR : rsF (packR op rs rt rd sa fn) = rs := by
  unfold rsF packR
  grind
@[simp] theorem rtF_packR : rtF (packR op rs rt rd sa fn) = rt := by
  unfold rtF packR
  grind
@[simp] theorem rdF_packR : rdF (packR op rs rt rd sa fn) = rd := by
  unfold rdF packR
  grind
@[simp] theorem saF_packR : saF (packR op rs rt rd sa fn) = sa := by
  unfold saF packR
  grind
@[simp] theorem functF_packR : functF (packR op rs rt rd sa fn) = fn := by
  unfold functF packR
  grind
@[simp] theorem base11_packR : base11 (packR op rs rt rd sa fn) = rd := by
  unfold base11 packR
  grind
@[simp] theorem bit21F_packR : bit21F (packR op rs rt rd sa fn) = rs.extractLsb' 0 1 := by
  unfold bit21F packR
  grind
@[simp] theorem bit6F_packR : bit6F (packR op rs rt rd sa fn) = sa.extractLsb' 0 1 := by
  unfold bit6F packR
  grind
@[simp] theorem coF_packR : coF (packR op rs rt rd sa fn) = rs.extractLsb' 4 1 := by
  unfold coF packR
  grind
@[simp] theorem posF_packR : posF (packR op rs rt rd sa fn) = sa.extractLsb' 0 2 := by
  unfold posF packR
  grind
@[simp] theorem typeF_packR : typeF (packR op rs rt rd sa fn) = sa.extractLsb' 2 2 := by
  unfold typeF packR
  grind
@[simp] theorem alignF_packR : alignF (packR op rs rt rd sa fn) = sa.extractLsb' 2 3 := by
  unfold alignF packR
  grind
@[simp] theorem funct7F_packR : funct7F (packR op rs rt rd sa fn) = sa.extractLsb' 0 1 ++ fn := by
  unfold funct7F packR
  grind
@[simp] theorem pcrelF_packR : pcrelF (packR op rs rt rd sa fn) = rt.extractLsb' 3 2 := by
  unfold pcrelF packR
  grind
@[simp] theorem immF_packR : immF (packR op rs rt rd sa fn) = rd ++ sa ++ fn := by
  unfold immF packR
  grind
@[simp] theorem opcodeF_packI : opcodeF (packI op rs rt imm) = op := by
  unfold opcodeF packI
  grind
@[simp] theorem rsF_packI : rsF (packI op rs rt imm) = rs := by
  unfold rsF packI
  grind
@[simp] theorem rtF_packI : rtF (packI op rs rt imm) = rt := by
  unfold rtF packI
  grind
@[simp] theorem immF_packI : immF (packI op rs rt imm) = imm := by
  unfold immF packI
  grind
@[simp] theorem coF_packI : coF (packI op rs rt imm) = rs.extractLsb' 4 1 := by
  unfold coF packI
  grind
@[simp] theorem pcrelF_packI : pcrelF (packI op rs rt imm) = rt.extractLsb' 3 2 := by
  unfold pcrelF packI
  grind
@[simp] theorem opcodeF_packJ : opcodeF (packJ op index) = op := by
  unfold opcodeF packJ
  grind
@[simp] theorem indexF_packJ : indexF (packJ op index) = index := by
  unfold indexF packJ
  grind
@[simp] theorem opcodeF_packMem9 : opcodeF (packMem9 rs rt off9 fn7) = 0x1F#6 := by
  unfold opcodeF packMem9
  grind
@[simp] theorem rsF_packMem9 : rsF (packMem9 rs rt off9 fn7) = rs := by
  unfold rsF packMem9
  grind
@[simp] theorem rtF_packMem9 : rtF (packMem9 rs rt off9 fn7) = rt := by
  unfold rtF packMem9
  grind
@[simp] theorem off9F_packMem9 : off9F (packMem9 rs rt off9 fn7) = off9 := by
  unfold off9F packMem9
  grind
@[simp] theorem funct7F_packMem9 : funct7F (packMem9 rs rt off9 fn7) = fn7 := by
  unfold funct7F packMem9
  grind
@[simp] theorem functF_packMem9 : functF (packMem9 rs rt off9 fn7) = fn7.extractLsb' 0 6 := by
  unfold functF packMem9
  grind
@[simp] theorem rdF_packMem9 : rdF (packMem9 rs rt off9 fn7) = off9.extractLsb' 4 5 := by
  unfold rdF packMem9
  grind
@[simp] theorem posF_packMem9 : posF (packMem9 rs rt off9 fn7) = off9.extractLsb' 0 1 ++ fn7.extractLsb' 6 1 := by
  unfold posF packMem9
  grind
@[simp] theorem opcodeF_packPc19 : opcodeF (packPc19 rs sel imm19) = 0x3B#6 := by
  unfold opcodeF packPc19
  grind
@[simp] theorem rsF_packPc19 : rsF (packPc19 rs sel imm19) = rs := by
  unfold rsF packPc19
  grind
@[simp] theorem pcrelF_packPc19 : pcrelF (packPc19 rs sel imm19) = sel := by
  unfold pcrelF packPc19
  grind
@[simp] theorem imm19F_packPc19 : imm19F (packPc19 rs sel imm19) = imm19 := by
  unfold imm19F packPc19
  grind
@[simp] theorem opcodeF_packMem11 : opcodeF (packMem11 rs rt rd off11) = 0x12#6 := by
  unfold opcodeF packMem11
  grind
@[simp] theorem rsF_packMem11 : rsF (packMem11 rs rt rd off11) = rs := by
  unfold rsF packMem11
  grind
@[simp] theorem rtF_packMem11 : rtF (packMem11 rs rt rd off11) = rt := by
  unfold rtF packMem11
  grind
@[simp] theorem base11_packMem11 : base11 (packMem11 rs rt rd off11) = rd := by
  unfold base11 packMem11
  grind
@[simp] theorem off11F_packMem11 : off11F (packMem11 rs rt rd off11) = off11 := by
  unfold off11F packMem11
  grind
@[simp] theorem opcodeF_packCode20 : opcodeF (packCode20 code20 fn) = 0x00#6 := by
  unfold opcodeF packCode20
  grind
@[simp] theorem code20F_packCode20 : code20F (packCode20 code20 fn) = code20 := by
  unfold code20F packCode20
  grind
@[simp] theorem functF_packCode20 : functF (packCode20 code20 fn) = fn := by
  unfold functF packCode20
  grind
@[simp] theorem opcodeF_packCode10 : opcodeF (packCode10 rs rt code10 fn) = 0x00#6 := by
  unfold opcodeF packCode10
  grind
@[simp] theorem rsF_packCode10 : rsF (packCode10 rs rt code10 fn) = rs := by
  unfold rsF packCode10
  grind
@[simp] theorem rtF_packCode10 : rtF (packCode10 rs rt code10 fn) = rt := by
  unfold rtF packCode10
  grind
@[simp] theorem code10F_packCode10 : code10F (packCode10 rs rt code10 fn) = code10 := by
  unfold code10F packCode10
  grind
@[simp] theorem functF_packCode10 : functF (packCode10 rs rt code10 fn) = fn := by
  unfold functF packCode10
  grind

end Fields

end Sys2Proof
end

