-- ==== Sys2Proof/Laws/State.lean ====
section
/-! SUPPORT. What each update of the state leaves in each field: one lemma for each field and update, so that no proof unfolds a
record update. -/

namespace Sys2Proof.Machine

variable (s : State)

@[simp] theorem State.setX_x (r : Reg) (v : Word) : (s.setX r v).x = writeReg s.x r v := rfl
@[simp] theorem State.setX_pc (r : Reg) (v : Word) : (s.setX r v).pc = s.pc := rfl
@[simp] theorem State.setX_hi (r : Reg) (v : Word) : (s.setX r v).hi = s.hi := rfl
@[simp] theorem State.setX_lo (r : Reg) (v : Word) : (s.setX r v).lo = s.lo := rfl
@[simp] theorem State.setX_f (r : Reg) (v : Word) : (s.setX r v).f = s.f := rfl
@[simp] theorem State.setX_fcr (r : Reg) (v : Word) : (s.setX r v).fcr = s.fcr := rfl
@[simp] theorem State.setX_c2d (r : Reg) (v : Word) : (s.setX r v).c2d = s.c2d := rfl
@[simp] theorem State.setX_c2c (r : Reg) (v : Word) : (s.setX r v).c2c = s.c2c := rfl
@[simp] theorem State.setX_sx (r : Reg) (v : Word) : (s.setX r v).sx = s.sx := rfl
@[simp] theorem State.setX_copBit (r : Reg) (v : Word) : (s.setX r v).copBit = s.copBit := rfl
@[simp] theorem State.setX_mem (r : Reg) (v : Word) : (s.setX r v).mem = s.mem := rfl
@[simp] theorem State.setX_params (r : Reg) (v : Word) : (s.setX r v).params = s.params := rfl
@[simp] theorem State.setX_raised (r : Reg) (v : Word) : (s.setX r v).raised = s.raised := rfl
@[simp] theorem State.setX_slot (r : Reg) (v : Word) : (s.setX r v).slot = s.slot := rfl
@[simp] theorem State.setX_draws (r : Reg) (v : Word) : (s.setX r v).draws = s.draws := rfl

@[simp] theorem State.setPc_x (t : Word) : (s.setPc t).x = s.x := rfl
@[simp] theorem State.setPc_pc (t : Word) : (s.setPc t).pc = t := rfl
@[simp] theorem State.setPc_hi (t : Word) : (s.setPc t).hi = s.hi := rfl
@[simp] theorem State.setPc_lo (t : Word) : (s.setPc t).lo = s.lo := rfl
@[simp] theorem State.setPc_f (t : Word) : (s.setPc t).f = s.f := rfl
@[simp] theorem State.setPc_fcr (t : Word) : (s.setPc t).fcr = s.fcr := rfl
@[simp] theorem State.setPc_c2d (t : Word) : (s.setPc t).c2d = s.c2d := rfl
@[simp] theorem State.setPc_c2c (t : Word) : (s.setPc t).c2c = s.c2c := rfl
@[simp] theorem State.setPc_sx (t : Word) : (s.setPc t).sx = s.sx := rfl
@[simp] theorem State.setPc_copBit (t : Word) : (s.setPc t).copBit = s.copBit := rfl
@[simp] theorem State.setPc_mem (t : Word) : (s.setPc t).mem = s.mem := rfl
@[simp] theorem State.setPc_params (t : Word) : (s.setPc t).params = s.params := rfl
@[simp] theorem State.setPc_raised (t : Word) : (s.setPc t).raised = s.raised := rfl
@[simp] theorem State.setPc_slot (t : Word) : (s.setPc t).slot = s.slot := rfl
@[simp] theorem State.setPc_draws (t : Word) : (s.setPc t).draws = s.draws := rfl

@[simp] theorem State.setHi_x (v : Word) : (s.setHi v).x = s.x := rfl
@[simp] theorem State.setHi_pc (v : Word) : (s.setHi v).pc = s.pc := rfl
@[simp] theorem State.setHi_hi (v : Word) : (s.setHi v).hi = v := rfl
@[simp] theorem State.setHi_lo (v : Word) : (s.setHi v).lo = s.lo := rfl
@[simp] theorem State.setHi_f (v : Word) : (s.setHi v).f = s.f := rfl
@[simp] theorem State.setHi_fcr (v : Word) : (s.setHi v).fcr = s.fcr := rfl
@[simp] theorem State.setHi_c2d (v : Word) : (s.setHi v).c2d = s.c2d := rfl
@[simp] theorem State.setHi_c2c (v : Word) : (s.setHi v).c2c = s.c2c := rfl
@[simp] theorem State.setHi_sx (v : Word) : (s.setHi v).sx = s.sx := rfl
@[simp] theorem State.setHi_copBit (v : Word) : (s.setHi v).copBit = s.copBit := rfl
@[simp] theorem State.setHi_mem (v : Word) : (s.setHi v).mem = s.mem := rfl
@[simp] theorem State.setHi_params (v : Word) : (s.setHi v).params = s.params := rfl
@[simp] theorem State.setHi_raised (v : Word) : (s.setHi v).raised = s.raised := rfl
@[simp] theorem State.setHi_slot (v : Word) : (s.setHi v).slot = s.slot := rfl
@[simp] theorem State.setHi_draws (v : Word) : (s.setHi v).draws = s.draws := rfl

@[simp] theorem State.setLo_x (v : Word) : (s.setLo v).x = s.x := rfl
@[simp] theorem State.setLo_pc (v : Word) : (s.setLo v).pc = s.pc := rfl
@[simp] theorem State.setLo_hi (v : Word) : (s.setLo v).hi = s.hi := rfl
@[simp] theorem State.setLo_lo (v : Word) : (s.setLo v).lo = v := rfl
@[simp] theorem State.setLo_f (v : Word) : (s.setLo v).f = s.f := rfl
@[simp] theorem State.setLo_fcr (v : Word) : (s.setLo v).fcr = s.fcr := rfl
@[simp] theorem State.setLo_c2d (v : Word) : (s.setLo v).c2d = s.c2d := rfl
@[simp] theorem State.setLo_c2c (v : Word) : (s.setLo v).c2c = s.c2c := rfl
@[simp] theorem State.setLo_sx (v : Word) : (s.setLo v).sx = s.sx := rfl
@[simp] theorem State.setLo_copBit (v : Word) : (s.setLo v).copBit = s.copBit := rfl
@[simp] theorem State.setLo_mem (v : Word) : (s.setLo v).mem = s.mem := rfl
@[simp] theorem State.setLo_params (v : Word) : (s.setLo v).params = s.params := rfl
@[simp] theorem State.setLo_raised (v : Word) : (s.setLo v).raised = s.raised := rfl
@[simp] theorem State.setLo_slot (v : Word) : (s.setLo v).slot = s.slot := rfl
@[simp] theorem State.setLo_draws (v : Word) : (s.setLo v).draws = s.draws := rfl

@[simp] theorem State.setAcc_x (v : DWord) : (s.setAcc v).x = s.x := rfl
@[simp] theorem State.setAcc_pc (v : DWord) : (s.setAcc v).pc = s.pc := rfl
@[simp] theorem State.setAcc_hi (v : DWord) : (s.setAcc v).hi = v.extractLsb' 32 32 := rfl
@[simp] theorem State.setAcc_lo (v : DWord) : (s.setAcc v).lo = v.extractLsb' 0 32 := rfl
@[simp] theorem State.setAcc_f (v : DWord) : (s.setAcc v).f = s.f := rfl
@[simp] theorem State.setAcc_fcr (v : DWord) : (s.setAcc v).fcr = s.fcr := rfl
@[simp] theorem State.setAcc_c2d (v : DWord) : (s.setAcc v).c2d = s.c2d := rfl
@[simp] theorem State.setAcc_c2c (v : DWord) : (s.setAcc v).c2c = s.c2c := rfl
@[simp] theorem State.setAcc_sx (v : DWord) : (s.setAcc v).sx = s.sx := rfl
@[simp] theorem State.setAcc_copBit (v : DWord) : (s.setAcc v).copBit = s.copBit := rfl
@[simp] theorem State.setAcc_mem (v : DWord) : (s.setAcc v).mem = s.mem := rfl
@[simp] theorem State.setAcc_params (v : DWord) : (s.setAcc v).params = s.params := rfl
@[simp] theorem State.setAcc_raised (v : DWord) : (s.setAcc v).raised = s.raised := rfl
@[simp] theorem State.setAcc_slot (v : DWord) : (s.setAcc v).slot = s.slot := rfl
@[simp] theorem State.setAcc_draws (v : DWord) : (s.setAcc v).draws = s.draws := rfl

@[simp] theorem State.setF_x (r : Reg) (v : Word) : (s.setF r v).x = s.x := rfl
@[simp] theorem State.setF_pc (r : Reg) (v : Word) : (s.setF r v).pc = s.pc := rfl
@[simp] theorem State.setF_hi (r : Reg) (v : Word) : (s.setF r v).hi = s.hi := rfl
@[simp] theorem State.setF_lo (r : Reg) (v : Word) : (s.setF r v).lo = s.lo := rfl
@[simp] theorem State.setF_f (r : Reg) (v : Word) : (s.setF r v).f = writeReg s.f r v := rfl
@[simp] theorem State.setF_fcr (r : Reg) (v : Word) : (s.setF r v).fcr = s.fcr := rfl
@[simp] theorem State.setF_c2d (r : Reg) (v : Word) : (s.setF r v).c2d = s.c2d := rfl
@[simp] theorem State.setF_c2c (r : Reg) (v : Word) : (s.setF r v).c2c = s.c2c := rfl
@[simp] theorem State.setF_sx (r : Reg) (v : Word) : (s.setF r v).sx = s.sx := rfl
@[simp] theorem State.setF_copBit (r : Reg) (v : Word) : (s.setF r v).copBit = s.copBit := rfl
@[simp] theorem State.setF_mem (r : Reg) (v : Word) : (s.setF r v).mem = s.mem := rfl
@[simp] theorem State.setF_params (r : Reg) (v : Word) : (s.setF r v).params = s.params := rfl
@[simp] theorem State.setF_raised (r : Reg) (v : Word) : (s.setF r v).raised = s.raised := rfl
@[simp] theorem State.setF_slot (r : Reg) (v : Word) : (s.setF r v).slot = s.slot := rfl
@[simp] theorem State.setF_draws (r : Reg) (v : Word) : (s.setF r v).draws = s.draws := rfl

@[simp] theorem State.setD_x (n : Reg) (v : DWord) : (s.setD n v).x = s.x := rfl
@[simp] theorem State.setD_pc (n : Reg) (v : DWord) : (s.setD n v).pc = s.pc := rfl
@[simp] theorem State.setD_hi (n : Reg) (v : DWord) : (s.setD n v).hi = s.hi := rfl
@[simp] theorem State.setD_lo (n : Reg) (v : DWord) : (s.setD n v).lo = s.lo := rfl
@[simp] theorem State.setD_f (n : Reg) (v : DWord) : (s.setD n v).f = writePair s.f n v := rfl
@[simp] theorem State.setD_fcr (n : Reg) (v : DWord) : (s.setD n v).fcr = s.fcr := rfl
@[simp] theorem State.setD_c2d (n : Reg) (v : DWord) : (s.setD n v).c2d = s.c2d := rfl
@[simp] theorem State.setD_c2c (n : Reg) (v : DWord) : (s.setD n v).c2c = s.c2c := rfl
@[simp] theorem State.setD_sx (n : Reg) (v : DWord) : (s.setD n v).sx = s.sx := rfl
@[simp] theorem State.setD_copBit (n : Reg) (v : DWord) : (s.setD n v).copBit = s.copBit := rfl
@[simp] theorem State.setD_mem (n : Reg) (v : DWord) : (s.setD n v).mem = s.mem := rfl
@[simp] theorem State.setD_params (n : Reg) (v : DWord) : (s.setD n v).params = s.params := rfl
@[simp] theorem State.setD_raised (n : Reg) (v : DWord) : (s.setD n v).raised = s.raised := rfl
@[simp] theorem State.setD_slot (n : Reg) (v : DWord) : (s.setD n v).slot = s.slot := rfl
@[simp] theorem State.setD_draws (n : Reg) (v : DWord) : (s.setD n v).draws = s.draws := rfl

@[simp] theorem State.setFcr_x (r : Reg) (v : Word) : (s.setFcr r v).x = s.x := rfl
@[simp] theorem State.setFcr_pc (r : Reg) (v : Word) : (s.setFcr r v).pc = s.pc := rfl
@[simp] theorem State.setFcr_hi (r : Reg) (v : Word) : (s.setFcr r v).hi = s.hi := rfl
@[simp] theorem State.setFcr_lo (r : Reg) (v : Word) : (s.setFcr r v).lo = s.lo := rfl
@[simp] theorem State.setFcr_f (r : Reg) (v : Word) : (s.setFcr r v).f = s.f := rfl
@[simp] theorem State.setFcr_fcr (r : Reg) (v : Word) : (s.setFcr r v).fcr = writeReg s.fcr r v := rfl
@[simp] theorem State.setFcr_c2d (r : Reg) (v : Word) : (s.setFcr r v).c2d = s.c2d := rfl
@[simp] theorem State.setFcr_c2c (r : Reg) (v : Word) : (s.setFcr r v).c2c = s.c2c := rfl
@[simp] theorem State.setFcr_sx (r : Reg) (v : Word) : (s.setFcr r v).sx = s.sx := rfl
@[simp] theorem State.setFcr_copBit (r : Reg) (v : Word) : (s.setFcr r v).copBit = s.copBit := rfl
@[simp] theorem State.setFcr_mem (r : Reg) (v : Word) : (s.setFcr r v).mem = s.mem := rfl
@[simp] theorem State.setFcr_params (r : Reg) (v : Word) : (s.setFcr r v).params = s.params := rfl
@[simp] theorem State.setFcr_raised (r : Reg) (v : Word) : (s.setFcr r v).raised = s.raised := rfl
@[simp] theorem State.setFcr_slot (r : Reg) (v : Word) : (s.setFcr r v).slot = s.slot := rfl
@[simp] theorem State.setFcr_draws (r : Reg) (v : Word) : (s.setFcr r v).draws = s.draws := rfl

@[simp] theorem State.setC2d_x (r : Reg) (v : Word) : (s.setC2d r v).x = s.x := rfl
@[simp] theorem State.setC2d_pc (r : Reg) (v : Word) : (s.setC2d r v).pc = s.pc := rfl
@[simp] theorem State.setC2d_hi (r : Reg) (v : Word) : (s.setC2d r v).hi = s.hi := rfl
@[simp] theorem State.setC2d_lo (r : Reg) (v : Word) : (s.setC2d r v).lo = s.lo := rfl
@[simp] theorem State.setC2d_f (r : Reg) (v : Word) : (s.setC2d r v).f = s.f := rfl
@[simp] theorem State.setC2d_fcr (r : Reg) (v : Word) : (s.setC2d r v).fcr = s.fcr := rfl
@[simp] theorem State.setC2d_c2d (r : Reg) (v : Word) : (s.setC2d r v).c2d = writeReg s.c2d r v := rfl
@[simp] theorem State.setC2d_c2c (r : Reg) (v : Word) : (s.setC2d r v).c2c = s.c2c := rfl
@[simp] theorem State.setC2d_sx (r : Reg) (v : Word) : (s.setC2d r v).sx = s.sx := rfl
@[simp] theorem State.setC2d_copBit (r : Reg) (v : Word) : (s.setC2d r v).copBit = s.copBit := rfl
@[simp] theorem State.setC2d_mem (r : Reg) (v : Word) : (s.setC2d r v).mem = s.mem := rfl
@[simp] theorem State.setC2d_params (r : Reg) (v : Word) : (s.setC2d r v).params = s.params := rfl
@[simp] theorem State.setC2d_raised (r : Reg) (v : Word) : (s.setC2d r v).raised = s.raised := rfl
@[simp] theorem State.setC2d_slot (r : Reg) (v : Word) : (s.setC2d r v).slot = s.slot := rfl
@[simp] theorem State.setC2d_draws (r : Reg) (v : Word) : (s.setC2d r v).draws = s.draws := rfl

@[simp] theorem State.setC2dPair_x (n : Reg) (v : DWord) : (s.setC2dPair n v).x = s.x := rfl
@[simp] theorem State.setC2dPair_pc (n : Reg) (v : DWord) : (s.setC2dPair n v).pc = s.pc := rfl
@[simp] theorem State.setC2dPair_hi (n : Reg) (v : DWord) : (s.setC2dPair n v).hi = s.hi := rfl
@[simp] theorem State.setC2dPair_lo (n : Reg) (v : DWord) : (s.setC2dPair n v).lo = s.lo := rfl
@[simp] theorem State.setC2dPair_f (n : Reg) (v : DWord) : (s.setC2dPair n v).f = s.f := rfl
@[simp] theorem State.setC2dPair_fcr (n : Reg) (v : DWord) : (s.setC2dPair n v).fcr = s.fcr := rfl
@[simp] theorem State.setC2dPair_c2d (n : Reg) (v : DWord) : (s.setC2dPair n v).c2d = writePair s.c2d n v := rfl
@[simp] theorem State.setC2dPair_c2c (n : Reg) (v : DWord) : (s.setC2dPair n v).c2c = s.c2c := rfl
@[simp] theorem State.setC2dPair_sx (n : Reg) (v : DWord) : (s.setC2dPair n v).sx = s.sx := rfl
@[simp] theorem State.setC2dPair_copBit (n : Reg) (v : DWord) : (s.setC2dPair n v).copBit = s.copBit := rfl
@[simp] theorem State.setC2dPair_mem (n : Reg) (v : DWord) : (s.setC2dPair n v).mem = s.mem := rfl
@[simp] theorem State.setC2dPair_params (n : Reg) (v : DWord) : (s.setC2dPair n v).params = s.params := rfl
@[simp] theorem State.setC2dPair_raised (n : Reg) (v : DWord) : (s.setC2dPair n v).raised = s.raised := rfl
@[simp] theorem State.setC2dPair_slot (n : Reg) (v : DWord) : (s.setC2dPair n v).slot = s.slot := rfl
@[simp] theorem State.setC2dPair_draws (n : Reg) (v : DWord) : (s.setC2dPair n v).draws = s.draws := rfl

@[simp] theorem State.setC2c_x (r : Reg) (v : Word) : (s.setC2c r v).x = s.x := rfl
@[simp] theorem State.setC2c_pc (r : Reg) (v : Word) : (s.setC2c r v).pc = s.pc := rfl
@[simp] theorem State.setC2c_hi (r : Reg) (v : Word) : (s.setC2c r v).hi = s.hi := rfl
@[simp] theorem State.setC2c_lo (r : Reg) (v : Word) : (s.setC2c r v).lo = s.lo := rfl
@[simp] theorem State.setC2c_f (r : Reg) (v : Word) : (s.setC2c r v).f = s.f := rfl
@[simp] theorem State.setC2c_fcr (r : Reg) (v : Word) : (s.setC2c r v).fcr = s.fcr := rfl
@[simp] theorem State.setC2c_c2d (r : Reg) (v : Word) : (s.setC2c r v).c2d = s.c2d := rfl
@[simp] theorem State.setC2c_c2c (r : Reg) (v : Word) : (s.setC2c r v).c2c = writeReg s.c2c r v := rfl
@[simp] theorem State.setC2c_sx (r : Reg) (v : Word) : (s.setC2c r v).sx = s.sx := rfl
@[simp] theorem State.setC2c_copBit (r : Reg) (v : Word) : (s.setC2c r v).copBit = s.copBit := rfl
@[simp] theorem State.setC2c_mem (r : Reg) (v : Word) : (s.setC2c r v).mem = s.mem := rfl
@[simp] theorem State.setC2c_params (r : Reg) (v : Word) : (s.setC2c r v).params = s.params := rfl
@[simp] theorem State.setC2c_raised (r : Reg) (v : Word) : (s.setC2c r v).raised = s.raised := rfl
@[simp] theorem State.setC2c_slot (r : Reg) (v : Word) : (s.setC2c r v).slot = s.slot := rfl
@[simp] theorem State.setC2c_draws (r : Reg) (v : Word) : (s.setC2c r v).draws = s.draws := rfl

@[simp] theorem State.setSx_x (r : Reg) (v : Word) : (s.setSx r v).x = s.x := rfl
@[simp] theorem State.setSx_pc (r : Reg) (v : Word) : (s.setSx r v).pc = s.pc := rfl
@[simp] theorem State.setSx_hi (r : Reg) (v : Word) : (s.setSx r v).hi = s.hi := rfl
@[simp] theorem State.setSx_lo (r : Reg) (v : Word) : (s.setSx r v).lo = s.lo := rfl
@[simp] theorem State.setSx_f (r : Reg) (v : Word) : (s.setSx r v).f = s.f := rfl
@[simp] theorem State.setSx_fcr (r : Reg) (v : Word) : (s.setSx r v).fcr = s.fcr := rfl
@[simp] theorem State.setSx_c2d (r : Reg) (v : Word) : (s.setSx r v).c2d = s.c2d := rfl
@[simp] theorem State.setSx_c2c (r : Reg) (v : Word) : (s.setSx r v).c2c = s.c2c := rfl
@[simp] theorem State.setSx_sx (r : Reg) (v : Word) : (s.setSx r v).sx = writeReg s.sx r v := rfl
@[simp] theorem State.setSx_copBit (r : Reg) (v : Word) : (s.setSx r v).copBit = s.copBit := rfl
@[simp] theorem State.setSx_mem (r : Reg) (v : Word) : (s.setSx r v).mem = s.mem := rfl
@[simp] theorem State.setSx_params (r : Reg) (v : Word) : (s.setSx r v).params = s.params := rfl
@[simp] theorem State.setSx_raised (r : Reg) (v : Word) : (s.setSx r v).raised = s.raised := rfl
@[simp] theorem State.setSx_slot (r : Reg) (v : Word) : (s.setSx r v).slot = s.slot := rfl
@[simp] theorem State.setSx_draws (r : Reg) (v : Word) : (s.setSx r v).draws = s.draws := rfl

@[simp] theorem State.setMem_x (m : Memory) : (s.setMem m).x = s.x := rfl
@[simp] theorem State.setMem_pc (m : Memory) : (s.setMem m).pc = s.pc := rfl
@[simp] theorem State.setMem_hi (m : Memory) : (s.setMem m).hi = s.hi := rfl
@[simp] theorem State.setMem_lo (m : Memory) : (s.setMem m).lo = s.lo := rfl
@[simp] theorem State.setMem_f (m : Memory) : (s.setMem m).f = s.f := rfl
@[simp] theorem State.setMem_fcr (m : Memory) : (s.setMem m).fcr = s.fcr := rfl
@[simp] theorem State.setMem_c2d (m : Memory) : (s.setMem m).c2d = s.c2d := rfl
@[simp] theorem State.setMem_c2c (m : Memory) : (s.setMem m).c2c = s.c2c := rfl
@[simp] theorem State.setMem_sx (m : Memory) : (s.setMem m).sx = s.sx := rfl
@[simp] theorem State.setMem_copBit (m : Memory) : (s.setMem m).copBit = s.copBit := rfl
@[simp] theorem State.setMem_mem (m : Memory) : (s.setMem m).mem = m := rfl
@[simp] theorem State.setMem_params (m : Memory) : (s.setMem m).params = s.params := rfl
@[simp] theorem State.setMem_raised (m : Memory) : (s.setMem m).raised = s.raised := rfl
@[simp] theorem State.setMem_slot (m : Memory) : (s.setMem m).slot = s.slot := rfl
@[simp] theorem State.setMem_draws (m : Memory) : (s.setMem m).draws = s.draws := rfl

@[simp] theorem State.setSlot_x (d : DelaySlot) : (s.setSlot d).x = s.x := rfl
@[simp] theorem State.setSlot_pc (d : DelaySlot) : (s.setSlot d).pc = s.pc := rfl
@[simp] theorem State.setSlot_hi (d : DelaySlot) : (s.setSlot d).hi = s.hi := rfl
@[simp] theorem State.setSlot_lo (d : DelaySlot) : (s.setSlot d).lo = s.lo := rfl
@[simp] theorem State.setSlot_f (d : DelaySlot) : (s.setSlot d).f = s.f := rfl
@[simp] theorem State.setSlot_fcr (d : DelaySlot) : (s.setSlot d).fcr = s.fcr := rfl
@[simp] theorem State.setSlot_c2d (d : DelaySlot) : (s.setSlot d).c2d = s.c2d := rfl
@[simp] theorem State.setSlot_c2c (d : DelaySlot) : (s.setSlot d).c2c = s.c2c := rfl
@[simp] theorem State.setSlot_sx (d : DelaySlot) : (s.setSlot d).sx = s.sx := rfl
@[simp] theorem State.setSlot_copBit (d : DelaySlot) : (s.setSlot d).copBit = s.copBit := rfl
@[simp] theorem State.setSlot_mem (d : DelaySlot) : (s.setSlot d).mem = s.mem := rfl
@[simp] theorem State.setSlot_params (d : DelaySlot) : (s.setSlot d).params = s.params := rfl
@[simp] theorem State.setSlot_raised (d : DelaySlot) : (s.setSlot d).raised = s.raised := rfl
@[simp] theorem State.setSlot_slot (d : DelaySlot) : (s.setSlot d).slot = d := rfl
@[simp] theorem State.setSlot_draws (d : DelaySlot) : (s.setSlot d).draws = s.draws := rfl

@[simp] theorem State.setRaised_x (c : Option Condition) : (s.setRaised c).x = s.x := rfl
@[simp] theorem State.setRaised_pc (c : Option Condition) : (s.setRaised c).pc = s.pc := rfl
@[simp] theorem State.setRaised_hi (c : Option Condition) : (s.setRaised c).hi = s.hi := rfl
@[simp] theorem State.setRaised_lo (c : Option Condition) : (s.setRaised c).lo = s.lo := rfl
@[simp] theorem State.setRaised_f (c : Option Condition) : (s.setRaised c).f = s.f := rfl
@[simp] theorem State.setRaised_fcr (c : Option Condition) : (s.setRaised c).fcr = s.fcr := rfl
@[simp] theorem State.setRaised_c2d (c : Option Condition) : (s.setRaised c).c2d = s.c2d := rfl
@[simp] theorem State.setRaised_c2c (c : Option Condition) : (s.setRaised c).c2c = s.c2c := rfl
@[simp] theorem State.setRaised_sx (c : Option Condition) : (s.setRaised c).sx = s.sx := rfl
@[simp] theorem State.setRaised_copBit (c : Option Condition) : (s.setRaised c).copBit = s.copBit := rfl
@[simp] theorem State.setRaised_mem (c : Option Condition) : (s.setRaised c).mem = s.mem := rfl
@[simp] theorem State.setRaised_params (c : Option Condition) : (s.setRaised c).params = s.params := rfl
@[simp] theorem State.setRaised_raised (c : Option Condition) : (s.setRaised c).raised = c := rfl
@[simp] theorem State.setRaised_slot (c : Option Condition) : (s.setRaised c).slot = s.slot := rfl
@[simp] theorem State.setRaised_draws (c : Option Condition) : (s.setRaised c).draws = s.draws := rfl

@[simp] theorem State.raise_x (c : Condition) : (s.raise c).x = s.x := rfl
@[simp] theorem State.raise_pc (c : Condition) : (s.raise c).pc = s.pc := rfl
@[simp] theorem State.raise_hi (c : Condition) : (s.raise c).hi = s.hi := rfl
@[simp] theorem State.raise_lo (c : Condition) : (s.raise c).lo = s.lo := rfl
@[simp] theorem State.raise_f (c : Condition) : (s.raise c).f = s.f := rfl
@[simp] theorem State.raise_fcr (c : Condition) : (s.raise c).fcr = s.fcr := rfl
@[simp] theorem State.raise_c2d (c : Condition) : (s.raise c).c2d = s.c2d := rfl
@[simp] theorem State.raise_c2c (c : Condition) : (s.raise c).c2c = s.c2c := rfl
@[simp] theorem State.raise_sx (c : Condition) : (s.raise c).sx = s.sx := rfl
@[simp] theorem State.raise_copBit (c : Condition) : (s.raise c).copBit = s.copBit := rfl
@[simp] theorem State.raise_mem (c : Condition) : (s.raise c).mem = s.mem := rfl
@[simp] theorem State.raise_params (c : Condition) : (s.raise c).params = s.params := rfl
@[simp] theorem State.raise_raised (c : Condition) : (s.raise c).raised = some c := rfl
@[simp] theorem State.raise_slot (c : Condition) : (s.raise c).slot = s.slot := rfl
@[simp] theorem State.raise_draws (c : Condition) : (s.raise c).draws = s.draws := rfl

@[simp] theorem State.draw_x : (s.draw).x = s.x := rfl
@[simp] theorem State.draw_pc : (s.draw).pc = s.pc := rfl
@[simp] theorem State.draw_hi : (s.draw).hi = s.hi := rfl
@[simp] theorem State.draw_lo : (s.draw).lo = s.lo := rfl
@[simp] theorem State.draw_f : (s.draw).f = s.f := rfl
@[simp] theorem State.draw_fcr : (s.draw).fcr = s.fcr := rfl
@[simp] theorem State.draw_c2d : (s.draw).c2d = s.c2d := rfl
@[simp] theorem State.draw_c2c : (s.draw).c2c = s.c2c := rfl
@[simp] theorem State.draw_sx : (s.draw).sx = s.sx := rfl
@[simp] theorem State.draw_copBit : (s.draw).copBit = s.copBit := rfl
@[simp] theorem State.draw_mem : (s.draw).mem = s.mem := rfl
@[simp] theorem State.draw_params : (s.draw).params = s.params := rfl
@[simp] theorem State.draw_raised : (s.draw).raised = s.raised := rfl
@[simp] theorem State.draw_slot : (s.draw).slot = s.slot := rfl
@[simp] theorem State.draw_draws : (s.draw).draws = s.draws + 1 := rfl

end Sys2Proof.Machine
end

