-- ==== Sys2Proof/Laws/Memory.lean ====
section
/-! SUPPORT. The laws of the memory: a read after a write (R52, R53), and that every memory operation keeps the canonical form. -/

namespace Sys2Proof.Machine

theorem readByte_dropByte_same (m : Memory) (a : Nat) : readByte (dropByte m a) a = Config.unlistedByte := by
  induction m with
  | nil => rfl
  | cons c rest ih =>
    obtain ⟨k, b⟩ := c
    by_cases h : k = a <;> simp [dropByte, readByte, h, ih]

theorem readByte_dropByte_ne (m : Memory) {a k : Nat} (h : k ≠ a) : readByte (dropByte m a) k = readByte m k := by
  induction m with
  | nil => rfl
  | cons c rest ih =>
    obtain ⟨j, b⟩ := c
    by_cases h1 : j = a
    · have : a ≠ k := Ne.symm h
      simp [dropByte, readByte, h1, ih, this]
    · by_cases h2 : j = k <;> simp [dropByte, readByte, h1, h2, ih, h]

theorem readByte_insertByte_ne (m : Memory) {a k : Nat} (v : Byte) (h : k ≠ a) :
    readByte (insertByte m a v) k = readByte m k := by
  induction m with
  | nil => simp [insertByte, readByte, Ne.symm h]
  | cons c rest ih =>
    obtain ⟨j, b⟩ := c
    by_cases h1 : a < j
    · simp [insertByte, readByte, h1, Ne.symm h]
    · by_cases h2 : j = k
      · subst h2; simp [insertByte, readByte, h1]
      · simp [insertByte, readByte, h1, h2, ih]

theorem readByte_insertByte_dropped (m : Memory) (a : Nat) (v : Byte) :
    readByte (insertByte (dropByte m a) a v) a = v := by
  induction m with
  | nil => simp [dropByte, insertByte, readByte]
  | cons c rest ih =>
    obtain ⟨j, b⟩ := c
    by_cases h : j = a
    · simp [dropByte, h, ih]
    · by_cases h1 : a < j
      · simp [dropByte, insertByte, readByte, h, h1]
      · simp [dropByte, insertByte, readByte, h, h1, ih]

/-- A byte reads back what was written to it, whatever the form of the memory (R53). -/
@[simp] theorem readByte_writeByte_same (m : Memory) (a : Nat) (v : Byte) : readByte (writeByte m a v) a = v := by
  by_cases h : v = Config.unlistedByte
  · simp [writeByte, h, readByte_dropByte_same]
  · simp [writeByte, h, readByte_insertByte_dropped]

/-- Writing one byte leaves every other (R53). -/
theorem readByte_writeByte_ne (m : Memory) {a k : Nat} (v : Byte) (h : k ≠ a) :
    readByte (writeByte m a v) k = readByte m k := by
  by_cases hv : v = Config.unlistedByte
  · simp [writeByte, hv, readByte_dropByte_ne m h]
  · simp [writeByte, hv, readByte_insertByte_ne _ v h, readByte_dropByte_ne m h]

/-- What a byte reads as after a write to some byte. -/
theorem readByte_writeByte (m : Memory) (a k : Nat) (v : Byte) :
    readByte (writeByte m a v) k = if k = a then v else readByte m k := by
  by_cases h : k = a
  · subst h; simp
  · simp [h, readByte_writeByte_ne m v h]

/-! ### The canonical form -/

/-- Every address of a memory lies above a bound. -/
def AddressesAbove (n : Nat) (m : Memory) : Prop := ∀ c ∈ m, n < c.1

/-- The canonical form, one entry at a time. -/
theorem Memory.wf_cons (a : Nat) (b : Byte) (m : Memory) :
    Memory.wf ((a, b) :: m) = true ↔ b ≠ Config.unlistedByte ∧ AddressesAbove a m ∧ Memory.wf m = true := by
  induction m generalizing a b with
  | nil => simp [Memory.wf, AddressesAbove]
  | cons c rest ih =>
    obtain ⟨a', b'⟩ := c
    simp only [Memory.wf, Bool.and_eq_true, bne_iff_ne, decide_eq_true_eq]
    constructor
    · rintro ⟨⟨h1, h2⟩, h3⟩
      refine ⟨h1, ?_, h3⟩
      intro c hc
      rcases List.mem_cons.1 hc with rfl | hc
      · exact h2
      · exact Nat.lt_trans h2 (((ih a' b').1 h3).2.1 c hc)
    · rintro ⟨h1, h2, h3⟩
      exact ⟨⟨h1, h2 (a', b') (List.mem_cons_self ..)⟩, h3⟩

theorem addressesAbove_dropByte {n : Nat} {m : Memory} (a : Nat) (h : AddressesAbove n m) :
    AddressesAbove n (dropByte m a) := by
  induction m with
  | nil => exact h
  | cons c rest ih =>
    obtain ⟨k, b⟩ := c
    have hr : AddressesAbove n rest := fun d hd => h d (List.mem_cons_of_mem _ hd)
    by_cases hk : k = a
    · simpa [dropByte, hk] using ih hr
    · simp only [dropByte, hk, if_false]
      intro d hd
      rcases List.mem_cons.1 hd with rfl | hd
      · exact h _ (List.mem_cons_self ..)
      · exact ih hr d hd

theorem wf_dropByte {m : Memory} (a : Nat) (h : m.wf = true) : (dropByte m a).wf = true := by
  induction m with
  | nil => exact h
  | cons c rest ih =>
    obtain ⟨k, b⟩ := c
    obtain ⟨h1, h2, h3⟩ := (Memory.wf_cons k b rest).1 h
    by_cases hk : k = a
    · simpa [dropByte, hk] using ih h3
    · simp only [dropByte, hk, if_false]
      exact (Memory.wf_cons ..).2 ⟨h1, addressesAbove_dropByte a h2, ih h3⟩

theorem addressesAbove_insertByte {n : Nat} {m : Memory} (a : Nat) (v : Byte) (hn : n < a) (h : AddressesAbove n m) :
    AddressesAbove n (insertByte m a v) := by
  induction m with
  | nil => intro d hd; simp only [insertByte, List.mem_singleton] at hd; subst hd; exact hn
  | cons c rest ih =>
    obtain ⟨k, b⟩ := c
    have hr : AddressesAbove n rest := fun d hd => h d (List.mem_cons_of_mem _ hd)
    by_cases hk : a < k
    · simp only [insertByte, hk, if_true]
      intro d hd
      rcases List.mem_cons.1 hd with rfl | hd
      · exact hn
      · exact h d hd
    · simp only [insertByte, hk, if_false]
      intro d hd
      rcases List.mem_cons.1 hd with rfl | hd
      · exact h _ (List.mem_cons_self ..)
      · exact ih hr d hd

/-- No entry of a memory has an address. -/
def AddressFree (a : Nat) (m : Memory) : Prop := ∀ c ∈ m, c.1 ≠ a

theorem addressFree_dropByte (m : Memory) (a : Nat) : AddressFree a (dropByte m a) := by
  induction m with
  | nil => intro d hd; cases hd
  | cons c rest ih =>
    obtain ⟨k, b⟩ := c
    by_cases hk : k = a
    · simpa [dropByte, hk] using ih
    · simp only [dropByte, hk, if_false]
      intro d hd
      rcases List.mem_cons.1 hd with rfl | hd
      · exact hk
      · exact ih d hd

theorem wf_insertByte {m : Memory} (a : Nat) {v : Byte} (hv : v ≠ Config.unlistedByte) (hf : AddressFree a m)
    (h : m.wf = true) : (insertByte m a v).wf = true := by
  induction m with
  | nil => simpa [insertByte, Memory.wf] using hv
  | cons c rest ih =>
    obtain ⟨k, b⟩ := c
    obtain ⟨h1, h2, h3⟩ := (Memory.wf_cons k b rest).1 h
    by_cases hk : a < k
    · simp only [insertByte, hk, if_true]
      refine (Memory.wf_cons ..).2 ⟨hv, ?_, h⟩
      intro d hd
      rcases List.mem_cons.1 hd with rfl | hd
      · exact hk
      · exact Nat.lt_trans hk (h2 d hd)
    · simp only [insertByte, hk, if_false]
      have hka : k ≠ a := hf (k, b) (List.mem_cons_self ..)
      refine (Memory.wf_cons ..).2 ⟨h1, addressesAbove_insertByte a v (by omega) h2, ?_⟩
      exact ih (fun d hd => hf d (List.mem_cons_of_mem _ hd)) h3

/-- Writing a byte keeps the canonical form. -/
theorem wf_writeByte {m : Memory} (a : Nat) (v : Byte) (h : m.wf = true) : (writeByte m a v).wf = true := by
  by_cases hv : v = Config.unlistedByte
  · simpa [writeByte, hv] using wf_dropByte a h
  · simpa [writeByte, hv] using wf_insertByte a hv (addressFree_dropByte m a) (wf_dropByte a h)

theorem wf_store8 {m : Memory} (a : Word) (v : Byte) (h : m.wf = true) : (store8 m a v).wf = true := wf_writeByte _ _ h
theorem wf_store16 {m : Memory} (a : Word) (v : Half) (h : m.wf = true) : (store16 m a v).wf = true :=
  wf_store8 _ _ (wf_store8 _ _ h)
theorem wf_store32 {m : Memory} (a : Word) (v : Word) (h : m.wf = true) : (store32 m a v).wf = true :=
  wf_store16 _ _ (wf_store16 _ _ h)
theorem wf_store64 {m : Memory} (a : Word) (v : DWord) (h : m.wf = true) : (store64 m a v).wf = true :=
  wf_store32 _ _ (wf_store32 _ _ h)

/-- The memory after reset has the canonical form. -/
theorem wf_reset_mem : State.reset.mem.wf = true := rfl

/-! ### Bytes stored by an access -/

theorem readByte_store8 (m : Memory) (a : Word) (v : Byte) (k : Nat) :
    readByte (store8 m a v) k = if k = a.toNat then v else readByte m k := readByte_writeByte _ _ _ _

theorem readByte_store16_ne (m : Memory) (a : Word) (v : Half) {k : Nat} (h0 : k ≠ a.toNat)
    (h1 : k ≠ (a + 1#32).toNat) : readByte (store16 m a v) k = readByte m k := by
  unfold store16
  rw [readByte_store8, if_neg h1, readByte_store8, if_neg h0]

/-- A halfword store leaves every byte outside its two (R53). -/
theorem store16_frame (m : Memory) (a : Word) (v : Half) {k : Nat}
    (h : ∀ i, i < 2 → k ≠ (a + BitVec.ofNat 32 i).toNat) : readByte (store16 m a v) k = readByte m k := by
  have h0 := h 0 (by decide)
  have h1 := h 1 (by decide)
  simp only [BitVec.add_zero] at h0
  exact readByte_store16_ne m a v h0 h1

/-- A word store leaves every byte outside its four (R53). -/
theorem store32_frame (m : Memory) (a : Word) (v : Word) {k : Nat}
    (h : ∀ i, i < 4 → k ≠ (a + BitVec.ofNat 32 i).toNat) : readByte (store32 m a v) k = readByte m k := by
  unfold store32
  rw [store16_frame, store16_frame]
  · intro i hi; exact h i (by omega)
  · intro i hi
    rw [BitVec.add_assoc, show (2#32 : Word) + BitVec.ofNat 32 i = BitVec.ofNat 32 (2 + i) from by simp [BitVec.ofNat_add]]
    exact h (2 + i) (by omega)

/-- A doubleword store leaves every byte outside its eight (R53). -/
theorem store64_frame (m : Memory) (a : Word) (v : DWord) {k : Nat}
    (h : ∀ i, i < 8 → k ≠ (a + BitVec.ofNat 32 i).toNat) : readByte (store64 m a v) k = readByte m k := by
  unfold store64
  rw [store32_frame, store32_frame]
  · intro i hi; exact h i (by omega)
  · intro i hi
    rw [BitVec.add_assoc, show (4#32 : Word) + BitVec.ofNat 32 i = BitVec.ofNat 32 (4 + i) from by simp [BitVec.ofNat_add]]
    exact h (4 + i) (by omega)

end Sys2Proof.Machine
end

