-- ==== Sys2Proof/Laws/Registers.lean ====
section
/-! SUPPORT. The laws of the register files: a read after a write, of one register and of a pair, and the accessors of the state over
its updates. -/

namespace Sys2Proof.Machine

/-- A register reads back what was written to it, GPR 0 included (R20, R21). -/
@[simp] theorem readReg_writeReg_same (g : RegFile) (r : Reg) (v : Word) : readReg (writeReg g r v) r = v := by
  simp [readReg, writeReg]

/-- Writing one register leaves every other. -/
theorem readReg_writeReg_ne (g : RegFile) {r q : Reg} (v : Word) (h : q ≠ r) :
    readReg (writeReg g r v) q = readReg g q := by
  have : r.toNat ≠ q.toNat := fun e => h (BitVec.eq_of_toNat_eq e.symm)
  simp [readReg, writeReg, Vector.getElem_set_ne, this]

/-- What a register reads as after a write to some register. -/
theorem readReg_writeReg (g : RegFile) (r q : Reg) (v : Word) :
    readReg (writeReg g r v) q = if q = r then v else readReg g q := by
  by_cases h : q = r
  · subst h; simp
  · simp [h, readReg_writeReg_ne g v h]

/-- The two registers of a pair differ. -/
theorem succ_ne_self (n : Reg) : n + 1#5 ≠ n := by
  revert n; decide

/-- What a register reads as after a write to a pair (R26). -/
theorem readReg_writePair (g : RegFile) (n q : Reg) (v : DWord) :
    readReg (writePair g n v) q =
      if q = n + 1#5 then v.extractLsb' 32 32 else if q = n then v.extractLsb' 0 32 else readReg g q := by
  simp [writePair, readReg_writeReg]

/-- A pair reads back what was written to it (R26). -/
@[simp] theorem readPair_writePair_same (g : RegFile) (n : Reg) (v : DWord) : readPair (writePair g n v) n = v := by
  have h : n ≠ n + 1#5 := fun e => succ_ne_self n e.symm
  simp only [readPair, readReg_writePair, h, if_true, if_false]
  grind

theorem State.getX_setX (s : State) (r q : Reg) (v : Word) :
    (s.setX r v).getX q = if q = r then v else s.getX q := readReg_writeReg _ _ _ _
@[simp] theorem State.getX_setX_same (s : State) (r : Reg) (v : Word) : (s.setX r v).getX r = v := by
  simp [State.getX_setX]
theorem State.getF_setF (s : State) (r q : Reg) (v : Word) :
    (s.setF r v).getF q = if q = r then v else s.getF q := readReg_writeReg _ _ _ _
@[simp] theorem State.getF_setF_same (s : State) (r : Reg) (v : Word) : (s.setF r v).getF r = v := by
  simp [State.getF_setF]
@[simp] theorem State.getD_setD_same (s : State) (n : Reg) (v : DWord) : (s.setD n v).getD n = v := by
  simp [State.getD]
theorem State.getF_setD (s : State) (n q : Reg) (v : DWord) :
    (s.setD n v).getF q =
      if q = n + 1#5 then v.extractLsb' 32 32 else if q = n then v.extractLsb' 0 32 else s.getF q :=
  readReg_writePair _ _ _ _
@[simp] theorem State.getFcr_setFcr (s : State) (r q : Reg) (v : Word) :
    (s.setFcr r v).getFcr q = if q = r then v else s.getFcr q := readReg_writeReg _ _ _ _
@[simp] theorem State.getC2d_setC2d (s : State) (r q : Reg) (v : Word) :
    (s.setC2d r v).getC2d q = if q = r then v else s.getC2d q := readReg_writeReg _ _ _ _
@[simp] theorem State.getC2c_setC2c (s : State) (r q : Reg) (v : Word) :
    (s.setC2c r v).getC2c q = if q = r then v else s.getC2c q := readReg_writeReg _ _ _ _
@[simp] theorem State.getSx_setSx (s : State) (r q : Reg) (v : Word) :
    (s.setSx r v).getSx q = if q = r then v else s.getSx q := readReg_writeReg _ _ _ _

end Sys2Proof.Machine
end

