-- ==== Sys2Proof/Laws/Ops.lean ====
section
/-! SUPPORT. For each shared operation, one lemma that says everything it can do; proofs cite these and do not unfold the operations. -/

namespace Sys2Proof.Machine

/-- Nothing answers a fault: the machine has the outcomes Ok, Fatal and Refuse only (R11, R560). -/
theorem result_ne_fault (r : Result) (f : Fault) : r ≠ .fault f := nomatch f

/-! ### Loads and stores -/

/-- A byte load gives a next state exactly inside the memory. -/
theorem loadByte_next {a : Word} {s t : State} {k : Byte → State} :
    loadByte a s k = .next t ↔ s.accessible a 1 = true ∧ k (load8 s.mem a) = t := by
  unfold loadByte; split <;> simp_all
/-- A halfword load gives a next state exactly inside the memory. -/
theorem loadHalf_next {a : Word} {s t : State} {k : Half → State} :
    loadHalf a s k = .next t ↔ s.accessible a 2 = true ∧ k (load16 s.mem a) = t := by
  unfold loadHalf; split <;> simp_all
/-- A word load gives a next state exactly inside the memory. -/
theorem loadWord_next {a : Word} {s t : State} {k : Word → State} :
    loadWord a s k = .next t ↔ s.accessible a 4 = true ∧ k (load32 s.mem a) = t := by
  unfold loadWord; split <;> simp_all
/-- A doubleword load gives a next state exactly inside the memory. -/
theorem loadDouble_next {a : Word} {s t : State} {k : DWord → State} :
    loadDouble a s k = .next t ↔ s.accessible a 8 = true ∧ k (load64 s.mem a) = t := by
  unfold loadDouble; split <;> simp_all

/-- A byte store gives a next state exactly inside the memory. -/
theorem storeByte_next {a : Word} {v : Byte} {s t : State} :
    storeByte a v s = .next t ↔ s.accessible a 1 = true ∧ s.setMem (store8 s.mem a v) = t := by
  unfold storeByte; split <;> simp_all
/-- A halfword store gives a next state exactly inside the memory. -/
theorem storeHalf_next {a : Word} {v : Half} {s t : State} :
    storeHalf a v s = .next t ↔ s.accessible a 2 = true ∧ s.setMem (store16 s.mem a v) = t := by
  unfold storeHalf; split <;> simp_all
/-- A word store gives a next state exactly inside the memory. -/
theorem storeWord_next {a : Word} {v : Word} {s t : State} :
    storeWord a v s = .next t ↔ s.accessible a 4 = true ∧ s.setMem (store32 s.mem a v) = t := by
  unfold storeWord; split <;> simp_all
/-- A doubleword store gives a next state exactly inside the memory. -/
theorem storeDouble_next {a : Word} {v : DWord} {s t : State} :
    storeDouble a v s = .next t ↔ s.accessible a 8 = true ∧ s.setMem (store64 s.mem a v) = t := by
  unfold storeDouble; split <;> simp_all
/-- A conditional word store stores and answers 1 exactly inside the memory (R485). -/
theorem storeWordThenOne_next {a v : Word} {rt : Reg} {s t : State} :
    storeWordThenOne a v rt s = .next t ↔
      s.accessible a 4 = true ∧ (s.setMem (store32 s.mem a v)).setX rt 1#32 = t := by
  unfold storeWordThenOne; split <;> simp_all
/-- A conditional doubleword store stores and answers 1 exactly inside the memory (R485). -/
theorem storeDoubleThenOne_next {a : Word} {v : DWord} {rt : Reg} {s t : State} :
    storeDoubleThenOne a v rt s = .next t ↔
      s.accessible a 8 = true ∧ (s.setMem (store64 s.mem a v)).setX rt 1#32 = t := by
  unfold storeDoubleThenOne; split <;> simp_all

/-- A pair operation goes on exactly when its register numbers are even (R26, R250, U4). -/
theorem onPairs_next {even : Bool} {k : Result} {t : State} : onPairs even k = .next t ↔ even = true ∧ k = .next t := by
  unfold onPairs; cases even <;> simp

/-- The bytes of an access lie below MEM_BYTES (R57). -/
theorem State.accessible_iff (s : State) (a : Word) (n : Nat) :
    s.accessible a n = true ↔ ∀ i, i < n → (a + BitVec.ofNat 32 i).toNat < s.params.memBytes := by
  simp [State.accessible]

/-! ### Transfers, traps, divisions, results -/

/-- A transfer writes pc or nothing. -/
theorem branchIf_next {c : Bool} {a : Word} {s t : State} :
    branchIf c a s = .next t ↔ (if c then s.setPc a else s) = t := by
  simp [branchIf]
/-- A linking transfer writes the link, and pc if it is taken. -/
theorem linkBranchIf_next {l : Word} {c : Bool} {a : Word} {s t : State} :
    linkBranchIf l c a s = .next t ↔ (if c then (s.setX linkReg l).setPc a else s.setX linkReg l) = t := by
  simp [linkBranchIf, branchIf]
/-- A transfer with a delay slot writes the link and owes the slot. -/
theorem linkWithSlot_next {r : Reg} {c : Bool} {a : Word} {s t : State} :
    linkWithSlot r c a s = .next t ↔
      (s.setX r s.link8).setSlot (if c then .transfer a else .fallThrough) = t := by
  simp [linkWithSlot]
/-- A trap raises or does nothing. -/
theorem trapIf_next {c : Bool} {s t : State} : trapIf c s = .next t ↔ (if c then s.raise .trap else s) = t := by
  simp [trapIf]
/-- A division into HI and LO. -/
theorem divideAcc_next {q r : Word → Word → Word} {rs rt : Reg} {s t : State} :
    divideAcc q r rs rt s = .next t ↔
      (if s.getX rt = 0#32 then ((s.setLo s.freeWord).setHi s.draw.freeWord).draw.draw
       else (s.setLo (q (s.getX rs) (s.getX rt))).setHi (r (s.getX rs) (s.getX rt))) = t := by
  unfold divideAcc; split <;> simp
/-- A division into a register. -/
theorem divideReg_next {op : Word → Word → Word} {rd rs rt : Reg} {s t : State} :
    divideReg op rd rs rt s = .next t ↔
      (if s.getX rt = 0#32 then (s.setX rd s.freeWord).draw
       else s.setX rd (op (s.getX rs) (s.getX rt))) = t := by
  unfold divideReg; split <;> simp

/-- A format S result writes one FPU register and may draw. -/
theorem putS_cases (fd : Reg) (r : FpResult) (s : State) :
    ∃ v, putS fd r s = s.setF fd v ∨ putS fd r s = (s.setF fd v).draw := by
  cases r <;> exact ⟨_, by simp [putS]; first | exact .inl rfl | exact .inr rfl⟩
/-- A format D result writes one pair of FPU registers and may draw. -/
theorem putD_cases (fd : Reg) (r : FpResult) (s : State) :
    ∃ v, putD fd r s = s.setD fd v ∨ putD fd r s = (s.setD fd v).draw := by
  cases r <;> exact ⟨_, by simp [putD]; first | exact .inl rfl | exact .inr rfl⟩

/-! ### Stores keep the memory inside its size -/

theorem addressesBelow_dropByte {n : Nat} {m : Memory} (a : Nat) (h : addressesBelow n m = true) :
    addressesBelow n (dropByte m a) = true := by
  induction m with
  | nil => rfl
  | cons c rest ih =>
    obtain ⟨k, b⟩ := c
    simp only [addressesBelow, Bool.and_eq_true, decide_eq_true_eq] at h
    by_cases hk : k = a
    · simpa [dropByte, hk] using ih h.2
    · simpa [dropByte, hk, addressesBelow] using And.intro h.1 (ih h.2)

theorem addressesBelow_insertByte {n : Nat} {m : Memory} {a : Nat} (v : Byte) (ha : a < n)
    (h : addressesBelow n m = true) : addressesBelow n (insertByte m a v) = true := by
  induction m with
  | nil => simpa [insertByte, addressesBelow] using ha
  | cons c rest ih =>
    obtain ⟨k, b⟩ := c
    simp only [addressesBelow, Bool.and_eq_true, decide_eq_true_eq] at h
    by_cases hk : a < k
    · simpa [insertByte, hk, addressesBelow] using ⟨ha, h.1, h.2⟩
    · simpa [insertByte, hk, addressesBelow] using And.intro h.1 (ih h.2)

/-- Writing a byte below the bound keeps every listed address below it. -/
theorem addressesBelow_store8 {n : Nat} {m : Memory} {a : Word} (v : Byte) (ha : a.toNat < n)
    (h : addressesBelow n m = true) : addressesBelow n (store8 m a v) = true := by
  unfold store8 writeByte
  split
  · exact addressesBelow_dropByte _ h
  · exact addressesBelow_insertByte _ ha (addressesBelow_dropByte _ h)

theorem addressesBelow_store16 {n : Nat} {m : Memory} {a : Word} (v : Half)
    (ha : ∀ i, i < 2 → (a + BitVec.ofNat 32 i).toNat < n) (h : addressesBelow n m = true) :
    addressesBelow n (store16 m a v) = true :=
  addressesBelow_store8 _ (ha 1 (by decide)) (addressesBelow_store8 _ (by simpa using ha 0 (by decide)) h)

theorem addressesBelow_store32 {n : Nat} {m : Memory} {a : Word} (v : Word)
    (ha : ∀ i, i < 4 → (a + BitVec.ofNat 32 i).toNat < n) (h : addressesBelow n m = true) :
    addressesBelow n (store32 m a v) = true := by
  refine addressesBelow_store16 _ (fun i hi => ?_) (addressesBelow_store16 _ (fun i hi => ha i (by omega)) h)
  rw [BitVec.add_assoc, show (2#32 : Word) + BitVec.ofNat 32 i = BitVec.ofNat 32 (2 + i) from by simp [BitVec.ofNat_add]]
  exact ha (2 + i) (by omega)

theorem addressesBelow_store64 {n : Nat} {m : Memory} {a : Word} (v : DWord)
    (ha : ∀ i, i < 8 → (a + BitVec.ofNat 32 i).toNat < n) (h : addressesBelow n m = true) :
    addressesBelow n (store64 m a v) = true := by
  refine addressesBelow_store32 _ (fun i hi => ?_) (addressesBelow_store32 _ (fun i hi => ha i (by omega)) h)
  rw [BitVec.add_assoc, show (4#32 : Word) + BitVec.ofNat 32 i = BitVec.ofNat 32 (4 + i) from by simp [BitVec.ofNat_add]]
  exact ha (4 + i) (by omega)

end Sys2Proof.Machine
end

