-- ==== Sys2Proof/Laws/Frame.lean ====
section
/-! SUPPORT. The frame of each update: at which places the state after it may differ from the state before. -/

namespace Sys2Proof.Machine

/-- Nothing changes between a state and itself. -/
theorem onlyChanges_refl (ps : List Place) (s : State) : OnlyChanges ps s s :=
  ⟨fun p _ => by cases p <;> rfl, rfl, rfl⟩

/-- More places may be listed. -/
theorem OnlyChanges.mono {ps qs : List Place} {s t : State} (h : OnlyChanges ps s t) (hs : ∀ p ∈ ps, p ∈ qs) :
    OnlyChanges qs s t := ⟨fun p hp => h.1 p fun hq => hp (hs p hq), h.2⟩

/-- Changes in a row. -/
theorem OnlyChanges.trans {ps qs : List Place} {s t u : State} (h : OnlyChanges ps s t) (k : OnlyChanges qs t u) :
    OnlyChanges (ps ++ qs) s u := by
  refine ⟨fun p hp => ?_, k.2.1.trans h.2.1, k.2.2.trans h.2.2⟩
  have h1 := h.1 p fun hq => hp (List.mem_append_left _ hq)
  have h2 := k.1 p fun hq => hp (List.mem_append_right _ hq)
  cases p <;> exact h2.trans h1

variable (s : State)

theorem onlyChanges_setX (r : Reg) (v : Word) : OnlyChanges [.x r] s (s.setX r v) := by
  refine ⟨fun p hp => ?_, rfl, rfl⟩
  cases p with
  | x q => exact readReg_writeReg_ne _ _ fun e => hp (by simp [e])
  | _ => rfl

theorem onlyChanges_setF (r : Reg) (v : Word) : OnlyChanges [.f r] s (s.setF r v) := by
  refine ⟨fun p hp => ?_, rfl, rfl⟩
  cases p with
  | f q => exact readReg_writeReg_ne _ _ fun e => hp (by simp [e])
  | _ => rfl

theorem onlyChanges_setD (r : Reg) (v : DWord) : OnlyChanges [.f r, .f (r + 1#5)] s (s.setD r v) := by
  refine ⟨fun p hp => ?_, rfl, rfl⟩
  cases p with
  | f q =>
    have h1 : q ≠ r := fun e => hp (by simp [e])
    have h2 : q ≠ r + 1#5 := fun e => hp (by simp [e])
    simp [SameAt, State.getF_setD, h1, h2]
  | _ => rfl

theorem onlyChanges_setFcr (r : Reg) (v : Word) : OnlyChanges [.fcr r] s (s.setFcr r v) := by
  refine ⟨fun p hp => ?_, rfl, rfl⟩
  cases p with
  | fcr q => exact readReg_writeReg_ne _ _ fun e => hp (by simp [e])
  | _ => rfl

theorem onlyChanges_setC2d (r : Reg) (v : Word) : OnlyChanges [.c2d r] s (s.setC2d r v) := by
  refine ⟨fun p hp => ?_, rfl, rfl⟩
  cases p with
  | c2d q => exact readReg_writeReg_ne _ _ fun e => hp (by simp [e])
  | _ => rfl

theorem onlyChanges_setC2dPair (r : Reg) (v : DWord) : OnlyChanges [.c2d r, .c2d (r + 1#5)] s (s.setC2dPair r v) := by
  refine ⟨fun p hp => ?_, rfl, rfl⟩
  cases p with
  | c2d q =>
    have h1 : q ≠ r := fun e => hp (by simp [e])
    have h2 : q ≠ r + 1#5 := fun e => hp (by simp [e])
    have := readReg_writePair s.c2d r q v
    simpa [SameAt, State.getC2d, h1, h2] using this
  | _ => rfl

theorem onlyChanges_setC2c (r : Reg) (v : Word) : OnlyChanges [.c2c r] s (s.setC2c r v) := by
  refine ⟨fun p hp => ?_, rfl, rfl⟩
  cases p with
  | c2c q => exact readReg_writeReg_ne _ _ fun e => hp (by simp [e])
  | _ => rfl

theorem onlyChanges_setSx (r : Reg) (v : Word) : OnlyChanges [.sx r] s (s.setSx r v) := by
  refine ⟨fun p hp => ?_, rfl, rfl⟩
  cases p with
  | sx q => exact readReg_writeReg_ne _ _ fun e => hp (by simp [e])
  | _ => rfl

theorem onlyChanges_setHi (v : Word) : OnlyChanges [.hi] s (s.setHi v) :=
  ⟨fun p hp => by cases p <;> first | rfl | simp at hp, rfl, rfl⟩

theorem onlyChanges_setLo (v : Word) : OnlyChanges [.lo] s (s.setLo v) :=
  ⟨fun p hp => by cases p <;> first | rfl | simp at hp, rfl, rfl⟩

theorem onlyChanges_setAcc (v : DWord) : OnlyChanges [.hi, .lo] s (s.setAcc v) :=
  (onlyChanges_setHi s _).trans (onlyChanges_setLo _ _)

theorem onlyChanges_setPc (v : Word) : OnlyChanges [.pc] s (s.setPc v) :=
  ⟨fun p hp => by cases p <;> first | rfl | simp at hp, rfl, rfl⟩

theorem onlyChanges_setSlot (d : DelaySlot) : OnlyChanges [.slot] s (s.setSlot d) :=
  ⟨fun p hp => by cases p <;> first | rfl | simp at hp, rfl, rfl⟩

theorem onlyChanges_raise (c : Condition) : OnlyChanges [.raised] s (s.raise c) :=
  ⟨fun p hp => by cases p <;> first | rfl | simp at hp, rfl, rfl⟩

theorem onlyChanges_draw : OnlyChanges [] s s.draw := ⟨fun p _ => by cases p <;> rfl, rfl, rfl⟩

/-- A memory that reads the same outside an access. -/
theorem onlyChanges_setMem {m : Memory} {a : Word} {n : Nat}
    (h : ∀ k, (∀ i, i < n → k ≠ (a + BitVec.ofNat 32 i).toNat) → readByte m k = readByte s.mem k) :
    OnlyChanges (bytePlaces a n) s (s.setMem m) := by
  refine ⟨fun p hp => ?_, rfl, rfl⟩
  cases p with
  | byte k =>
    refine h k fun i hi e => hp ?_
    exact List.mem_map.2 ⟨i, List.mem_range.2 hi, by rw [e]⟩
  | _ => rfl

theorem onlyChanges_store8 (a : Word) (v : Byte) : OnlyChanges (bytePlaces a 1) s (s.setMem (store8 s.mem a v)) := by
  refine onlyChanges_setMem s fun k hk => ?_
  have := hk 0 (by decide)
  simp only [BitVec.add_zero] at this
  rw [readByte_store8, if_neg this]

theorem onlyChanges_store16 (a : Word) (v : Half) : OnlyChanges (bytePlaces a 2) s (s.setMem (store16 s.mem a v)) :=
  onlyChanges_setMem s fun _ hk => store16_frame _ _ _ hk

theorem onlyChanges_store32 (a : Word) (v : Word) : OnlyChanges (bytePlaces a 4) s (s.setMem (store32 s.mem a v)) :=
  onlyChanges_setMem s fun _ hk => store32_frame _ _ _ hk

theorem onlyChanges_store64 (a : Word) (v : DWord) : OnlyChanges (bytePlaces a 8) s (s.setMem (store64 s.mem a v)) :=
  onlyChanges_setMem s fun _ hk => store64_frame _ _ _ hk

/-- A format S result writes fd only. -/
theorem onlyChanges_putS (fd : Reg) (r : FpResult) : OnlyChanges [.f fd] s (putS fd r s) := by
  obtain ⟨v, h | h⟩ := putS_cases fd r s <;> rw [h]
  · exact onlyChanges_setF s fd v
  · exact (onlyChanges_setF s fd v).trans (onlyChanges_draw _)

/-- A format D result writes the pair fd only. -/
theorem onlyChanges_putD (fd : Reg) (r : FpResult) : OnlyChanges [.f fd, .f (fd + 1#5)] s (putD fd r s) := by
  obtain ⟨v, h | h⟩ := putD_cases fd r s <;> rw [h]
  · exact onlyChanges_setD s fd v
  · exact (onlyChanges_setD s fd v).trans (onlyChanges_draw _)

end Sys2Proof.Machine
end

