-- ==== Sys2Proof/Laws/PerInstr.lean ====
section
/-! SUPPORT. Statements about every instruction, one lemma for each constructor. `Row`: the encoder writes the fixed bits of the
instruction's row of opcode_table.json (30_encoding.md R72, R75). -/

namespace Sys2Proof

/-- The conjunction of two words put together from fields is the conjunction of their fields. -/
theorem app_and {m n : Nat} {a c e : BitVec m} {b d : BitVec n} (h : a &&& c = e) : (a ++ b) &&& (c ++ d) = e ++ (b &&& d) := by
  subst h
  apply BitVec.eq_of_getElem_eq
  intro i hi
  simp only [BitVec.getElem_and, BitVec.getElem_append]
  split <;> rfl

/-- The fixed bits of a word packed by `packR`, field by field. -/
theorem packR_row {op rs rt rd sa fn} {mask bits : Word} (m0 m1 m2 m3 m4 m5) (hm : m0 ++ m1 ++ m2 ++ m3 ++ m4 ++ m5 = mask)
    (hb : packR (op &&& m0) (rs &&& m1) (rt &&& m2) (rd &&& m3) (sa &&& m4) (fn &&& m5) = bits) : packR op rs rt rd sa fn &&& mask = bits := by
  subst hm hb
  exact app_and (app_and (app_and (app_and (app_and rfl))))

/-- The fixed bits of a word packed by `packI`, field by field. -/
theorem packI_row {op rs rt imm} {mask bits : Word} (m0 m1 m2 m3) (hm : m0 ++ m1 ++ m2 ++ m3 = mask)
    (hb : packI (op &&& m0) (rs &&& m1) (rt &&& m2) (imm &&& m3) = bits) : packI op rs rt imm &&& mask = bits := by
  subst hm hb
  exact app_and (app_and (app_and rfl))

/-- The fixed bits of a word packed by `packJ`, field by field. -/
theorem packJ_row {op index} {mask bits : Word} (m0 m1) (hm : m0 ++ m1 = mask)
    (hb : packJ (op &&& m0) (index &&& m1) = bits) : packJ op index &&& mask = bits := by
  subst hm hb
  exact app_and rfl

/-- The fixed bits of a word packed by `packMem9`, field by field. -/
theorem packMem9_row {base rt off9 fn} {mask bits : Word} (m0 m1 m2 m3) (hm : 0x3F#6 ++ m0 ++ m1 ++ m2 ++ m3 = mask)
    (hb : packMem9 (base &&& m0) (rt &&& m1) (off9 &&& m2) (fn &&& m3) = bits) : packMem9 base rt off9 fn &&& mask = bits := by
  subst hm hb
  exact app_and (app_and (app_and (app_and rfl)))

/-- The fixed bits of a word packed by `packPc19`, field by field. -/
theorem packPc19_row {rs sel imm19} {mask bits : Word} (m0 m1 m2) (hm : 0x3F#6 ++ m0 ++ m1 ++ m2 = mask)
    (hb : packPc19 (rs &&& m0) (sel &&& m1) (imm19 &&& m2) = bits) : packPc19 rs sel imm19 &&& mask = bits := by
  subst hm hb
  exact app_and (app_and (app_and rfl))

/-- The fixed bits of a word packed by `packMem11`, field by field. -/
theorem packMem11_row {sub rt base off11} {mask bits : Word} (m0 m1 m2 m3) (hm : 0x3F#6 ++ m0 ++ m1 ++ m2 ++ m3 = mask)
    (hb : packMem11 (sub &&& m0) (rt &&& m1) (base &&& m2) (off11 &&& m3) = bits) : packMem11 sub rt base off11 &&& mask = bits := by
  subst hm hb
  exact app_and (app_and (app_and (app_and rfl)))

/-- The fixed bits of a word packed by `packCode20`, field by field. -/
theorem packCode20_row {code fn} {mask bits : Word} (m0 m1) (hm : 0x3F#6 ++ m0 ++ m1 = mask)
    (hb : packCode20 (code &&& m0) (fn &&& m1) = bits) : packCode20 code fn &&& mask = bits := by
  subst hm hb
  exact app_and (app_and rfl)

/-- The fixed bits of a word packed by `packCode10`, field by field. -/
theorem packCode10_row {rs rt code fn} {mask bits : Word} (m0 m1 m2 m3) (hm : 0x3F#6 ++ m0 ++ m1 ++ m2 ++ m3 = mask)
    (hb : packCode10 (rs &&& m0) (rt &&& m1) (code &&& m2) (fn &&& m3) = bits) : packCode10 rs rt code fn &&& mask = bits := by
  subst hm hb
  exact app_and (app_and (app_and (app_and rfl)))

end Sys2Proof

open Sys2Proof

/-- The word that `encode` gives an instruction has the fixed bits of the instruction's row. -/
def Sys2Proof.Laws.Row.Statement (i : Instr) : Prop := encode i &&& (rowOf i).mask = (rowOf i).bits

theorem Sys2Proof.Laws.Row.add (rd : Reg) (rs : Reg) (rt : Reg) : Sys2Proof.Laws.Row.Statement (.add rd rs rt) :=
  packR_row (mask := 0xFC00003F#32) (bits := 0x00000020#32) 0x3F#6 0x0#5 0x0#5 0x0#5 0x0#5 0x3F#6 (by decide) (by simp only [BitVec.and_zero]; decide)
theorem Sys2Proof.Laws.Row.addu (rd : Reg) (rs : Reg) (rt : Reg) : Sys2Proof.Laws.Row.Statement (.addu rd rs rt) :=
  packR_row (mask := 0xFC00003F#32) (bits := 0x00000021#32) 0x3F#6 0x0#5 0x0#5 0x0#5 0x0#5 0x3F#6 (by decide) (by simp only [BitVec.and_zero]; decide)
theorem Sys2Proof.Laws.Row.sub (rd : Reg) (rs : Reg) (rt : Reg) : Sys2Proof.Laws.Row.Statement (.sub rd rs rt) :=
  packR_row (mask := 0xFC00003F#32) (bits := 0x00000022#32) 0x3F#6 0x0#5 0x0#5 0x0#5 0x0#5 0x3F#6 (by decide) (by simp only [BitVec.and_zero]; decide)
theorem Sys2Proof.Laws.Row.subu (rd : Reg) (rs : Reg) (rt : Reg) : Sys2Proof.Laws.Row.Statement (.subu rd rs rt) :=
  packR_row (mask := 0xFC00003F#32) (bits := 0x00000023#32) 0x3F#6 0x0#5 0x0#5 0x0#5 0x0#5 0x3F#6 (by decide) (by simp only [BitVec.and_zero]; decide)
theorem Sys2Proof.Laws.Row.addiu (rt : Reg) (rs : Reg) (imm : Half) : Sys2Proof.Laws.Row.Statement (.addiu rt rs imm) :=
  packI_row (mask := 0xFC000000#32) (bits := 0x24000000#32) 0x3F#6 0x0#5 0x0#5 0x0#16 (by decide) (by simp only [BitVec.and_zero]; decide)
theorem Sys2Proof.Laws.Row.and (rd : Reg) (rs : Reg) (rt : Reg) : Sys2Proof.Laws.Row.Statement (.and rd rs rt) :=
  packR_row (mask := 0xFC00003F#32) (bits := 0x00000024#32) 0x3F#6 0x0#5 0x0#5 0x0#5 0x0#5 0x3F#6 (by decide) (by simp only [BitVec.and_zero]; decide)
theorem Sys2Proof.Laws.Row.or (rd : Reg) (rs : Reg) (rt : Reg) : Sys2Proof.Laws.Row.Statement (.or rd rs rt) :=
  packR_row (mask := 0xFC00003F#32) (bits := 0x00000025#32) 0x3F#6 0x0#5 0x0#5 0x0#5 0x0#5 0x3F#6 (by decide) (by simp only [BitVec.and_zero]; decide)
theorem Sys2Proof.Laws.Row.xor (rd : Reg) (rs : Reg) (rt : Reg) : Sys2Proof.Laws.Row.Statement (.xor rd rs rt) :=
  packR_row (mask := 0xFC00003F#32) (bits := 0x00000026#32) 0x3F#6 0x0#5 0x0#5 0x0#5 0x0#5 0x3F#6 (by decide) (by simp only [BitVec.and_zero]; decide)
theorem Sys2Proof.Laws.Row.nor (rd : Reg) (rs : Reg) (rt : Reg) : Sys2Proof.Laws.Row.Statement (.nor rd rs rt) :=
  packR_row (mask := 0xFC00003F#32) (bits := 0x00000027#32) 0x3F#6 0x0#5 0x0#5 0x0#5 0x0#5 0x3F#6 (by decide) (by simp only [BitVec.and_zero]; decide)
theorem Sys2Proof.Laws.Row.andi (rt : Reg) (rs : Reg) (imm : Half) : Sys2Proof.Laws.Row.Statement (.andi rt rs imm) :=
  packI_row (mask := 0xFC000000#32) (bits := 0x30000000#32) 0x3F#6 0x0#5 0x0#5 0x0#16 (by decide) (by simp only [BitVec.and_zero]; decide)
theorem Sys2Proof.Laws.Row.ori (rt : Reg) (rs : Reg) (imm : Half) : Sys2Proof.Laws.Row.Statement (.ori rt rs imm) :=
  packI_row (mask := 0xFC000000#32) (bits := 0x34000000#32) 0x3F#6 0x0#5 0x0#5 0x0#16 (by decide) (by simp only [BitVec.and_zero]; decide)
theorem Sys2Proof.Laws.Row.xori (rt : Reg) (rs : Reg) (imm : Half) : Sys2Proof.Laws.Row.Statement (.xori rt rs imm) :=
  packI_row (mask := 0xFC000000#32) (bits := 0x38000000#32) 0x3F#6 0x0#5 0x0#5 0x0#16 (by decide) (by simp only [BitVec.and_zero]; decide)
theorem Sys2Proof.Laws.Row.slt (rd : Reg) (rs : Reg) (rt : Reg) : Sys2Proof.Laws.Row.Statement (.slt rd rs rt) :=
  packR_row (mask := 0xFC00003F#32) (bits := 0x0000002A#32) 0x3F#6 0x0#5 0x0#5 0x0#5 0x0#5 0x3F#6 (by decide) (by simp only [BitVec.and_zero]; decide)
theorem Sys2Proof.Laws.Row.sltu (rd : Reg) (rs : Reg) (rt : Reg) : Sys2Proof.Laws.Row.Statement (.sltu rd rs rt) :=
  packR_row (mask := 0xFC00003F#32) (bits := 0x0000002B#32) 0x3F#6 0x0#5 0x0#5 0x0#5 0x0#5 0x3F#6 (by decide) (by simp only [BitVec.and_zero]; decide)
theorem Sys2Proof.Laws.Row.slti (rt : Reg) (rs : Reg) (imm : Half) : Sys2Proof.Laws.Row.Statement (.slti rt rs imm) :=
  packI_row (mask := 0xFC000000#32) (bits := 0x28000000#32) 0x3F#6 0x0#5 0x0#5 0x0#16 (by decide) (by simp only [BitVec.and_zero]; decide)
theorem Sys2Proof.Laws.Row.sltiu (rt : Reg) (rs : Reg) (imm : Half) : Sys2Proof.Laws.Row.Statement (.sltiu rt rs imm) :=
  packI_row (mask := 0xFC000000#32) (bits := 0x2C000000#32) 0x3F#6 0x0#5 0x0#5 0x0#16 (by decide) (by simp only [BitVec.and_zero]; decide)
theorem Sys2Proof.Laws.Row.lui (rt : Reg) (imm : Half) : Sys2Proof.Laws.Row.Statement (.lui rt imm) :=
  packI_row (mask := 0xFC000000#32) (bits := 0x3C000000#32) 0x3F#6 0x0#5 0x0#5 0x0#16 (by decide) (by simp only [BitVec.and_zero]; decide)
theorem Sys2Proof.Laws.Row.aui (rt : Reg) (rs : Reg) (imm : Half) : Sys2Proof.Laws.Row.Statement (.aui rt rs imm) :=
  packI_row (mask := 0xFC000000#32) (bits := 0x3C000000#32) 0x3F#6 0x0#5 0x0#5 0x0#16 (by decide) (by simp only [BitVec.and_zero]; decide)
theorem Sys2Proof.Laws.Row.seleqz (rd : Reg) (rs : Reg) (rt : Reg) : Sys2Proof.Laws.Row.Statement (.seleqz rd rs rt) :=
  packR_row (mask := 0xFC00003F#32) (bits := 0x00000035#32) 0x3F#6 0x0#5 0x0#5 0x0#5 0x0#5 0x3F#6 (by decide) (by simp only [BitVec.and_zero]; decide)
theorem Sys2Proof.Laws.Row.selnez (rd : Reg) (rs : Reg) (rt : Reg) : Sys2Proof.Laws.Row.Statement (.selnez rd rs rt) :=
  packR_row (mask := 0xFC00003F#32) (bits := 0x00000037#32) 0x3F#6 0x0#5 0x0#5 0x0#5 0x0#5 0x3F#6 (by decide) (by simp only [BitVec.and_zero]; decide)
theorem Sys2Proof.Laws.Row.clz (rd : Reg) (rs : Reg) : Sys2Proof.Laws.Row.Statement (.clz rd rs) :=
  packR_row (mask := 0xFC0007FF#32) (bits := 0x00000050#32) 0x3F#6 0x0#5 0x0#5 0x0#5 0x1F#5 0x3F#6 (by decide) (by simp only [BitVec.and_zero]; decide)
theorem Sys2Proof.Laws.Row.clo (rd : Reg) (rs : Reg) : Sys2Proof.Laws.Row.Statement (.clo rd rs) :=
  packR_row (mask := 0xFC0007FF#32) (bits := 0x00000051#32) 0x3F#6 0x0#5 0x0#5 0x0#5 0x1F#5 0x3F#6 (by decide) (by simp only [BitVec.and_zero]; decide)
theorem Sys2Proof.Laws.Row.seb (rd : Reg) (rt : Reg) : Sys2Proof.Laws.Row.Statement (.seb rd rt) :=
  packR_row (mask := 0xFC0007FF#32) (bits := 0x7C000420#32) 0x3F#6 0x0#5 0x0#5 0x0#5 0x1F#5 0x3F#6 (by decide) (by simp only [BitVec.and_zero]; decide)
theorem Sys2Proof.Laws.Row.seh (rd : Reg) (rt : Reg) : Sys2Proof.Laws.Row.Statement (.seh rd rt) :=
  packR_row (mask := 0xFC0007FF#32) (bits := 0x7C000620#32) 0x3F#6 0x0#5 0x0#5 0x0#5 0x1F#5 0x3F#6 (by decide) (by simp only [BitVec.and_zero]; decide)
theorem Sys2Proof.Laws.Row.wsbh (rd : Reg) (rt : Reg) : Sys2Proof.Laws.Row.Statement (.wsbh rd rt) :=
  packR_row (mask := 0xFC0007FF#32) (bits := 0x7C0000A0#32) 0x3F#6 0x0#5 0x0#5 0x0#5 0x1F#5 0x3F#6 (by decide) (by simp only [BitVec.and_zero]; decide)
theorem Sys2Proof.Laws.Row.bitswap (rd : Reg) (rt : Reg) : Sys2Proof.Laws.Row.Statement (.bitswap rd rt) :=
  packR_row (mask := 0xFC0007FF#32) (bits := 0x7C000020#32) 0x3F#6 0x0#5 0x0#5 0x0#5 0x1F#5 0x3F#6 (by decide) (by simp only [BitVec.and_zero]; decide)
theorem Sys2Proof.Laws.Row.align (rd : Reg) (rs : Reg) (rt : Reg) (bp : BitVec 2) : Sys2Proof.Laws.Row.Statement (.align rd rs rt bp) :=
  packR_row (mask := 0xFC00073F#32) (bits := 0x7C000220#32) 0x3F#6 0x0#5 0x0#5 0x0#5 0x1C#5 0x3F#6 (by decide) (by simp only [BitVec.and_zero]; revert bp; decide)
theorem Sys2Proof.Laws.Row.ext (rt : Reg) (rs : Reg) (msb : Reg) (lsb : Reg) : Sys2Proof.Laws.Row.Statement (.ext rt rs msb lsb) :=
  packR_row (mask := 0xFC00003F#32) (bits := 0x7C000000#32) 0x3F#6 0x0#5 0x0#5 0x0#5 0x0#5 0x3F#6 (by decide) (by simp only [BitVec.and_zero]; decide)
theorem Sys2Proof.Laws.Row.ins (rt : Reg) (rs : Reg) (msb : Reg) (lsb : Reg) : Sys2Proof.Laws.Row.Statement (.ins rt rs msb lsb) :=
  packR_row (mask := 0xFC00003F#32) (bits := 0x7C000004#32) 0x3F#6 0x0#5 0x0#5 0x0#5 0x0#5 0x3F#6 (by decide) (by simp only [BitVec.and_zero]; decide)
theorem Sys2Proof.Laws.Row.lsa (rd : Reg) (rs : Reg) (rt : Reg) (sa2 : BitVec 2) : Sys2Proof.Laws.Row.Statement (.lsa rd rs rt sa2) :=
  packR_row (mask := 0xFC00003F#32) (bits := 0x00000005#32) 0x3F#6 0x0#5 0x0#5 0x0#5 0x0#5 0x3F#6 (by decide) (by simp only [BitVec.and_zero]; decide)
theorem Sys2Proof.Laws.Row.addiupc (rs : Reg) (imm19 : BitVec 19) : Sys2Proof.Laws.Row.Statement (.addiupc rs imm19) :=
  packPc19_row (mask := 0xFC180000#32) (bits := 0xEC000000#32) 0x0#5 0x3#2 0x0#19 (by decide) (by simp only [BitVec.and_zero]; decide)
theorem Sys2Proof.Laws.Row.auipc (rs : Reg) (imm : Half) : Sys2Proof.Laws.Row.Statement (.auipc rs imm) :=
  packI_row (mask := 0xFC1F0000#32) (bits := 0xEC1E0000#32) 0x3F#6 0x0#5 0x1F#5 0x0#16 (by decide) (by simp only [BitVec.and_zero]; decide)
theorem Sys2Proof.Laws.Row.aluipc (rs : Reg) (imm : Half) : Sys2Proof.Laws.Row.Statement (.aluipc rs imm) :=
  packI_row (mask := 0xFC1F0000#32) (bits := 0xEC1F0000#32) 0x3F#6 0x0#5 0x1F#5 0x0#16 (by decide) (by simp only [BitVec.and_zero]; decide)
theorem Sys2Proof.Laws.Row.sll (rd : Reg) (rt : Reg) (sa : Reg) : Sys2Proof.Laws.Row.Statement (.sll rd rt sa) :=
  packR_row (mask := 0xFC00003F#32) (bits := 0x00000000#32) 0x3F#6 0x0#5 0x0#5 0x0#5 0x0#5 0x3F#6 (by decide) (by simp only [BitVec.and_zero]; decide)
theorem Sys2Proof.Laws.Row.srl (rd : Reg) (rt : Reg) (sa : Reg) : Sys2Proof.Laws.Row.Statement (.srl rd rt sa) :=
  packR_row (mask := 0xFC20003F#32) (bits := 0x00000002#32) 0x3F#6 0x1#5 0x0#5 0x0#5 0x0#5 0x3F#6 (by decide) (by simp only [BitVec.and_zero]; decide)
theorem Sys2Proof.Laws.Row.sra (rd : Reg) (rt : Reg) (sa : Reg) : Sys2Proof.Laws.Row.Statement (.sra rd rt sa) :=
  packR_row (mask := 0xFC00003F#32) (bits := 0x00000003#32) 0x3F#6 0x0#5 0x0#5 0x0#5 0x0#5 0x3F#6 (by decide) (by simp only [BitVec.and_zero]; decide)
theorem Sys2Proof.Laws.Row.sllv (rd : Reg) (rt : Reg) (rs : Reg) : Sys2Proof.Laws.Row.Statement (.sllv rd rt rs) :=
  packR_row (mask := 0xFC00003F#32) (bits := 0x00000004#32) 0x3F#6 0x0#5 0x0#5 0x0#5 0x0#5 0x3F#6 (by decide) (by simp only [BitVec.and_zero]; decide)
theorem Sys2Proof.Laws.Row.srlv (rd : Reg) (rt : Reg) (rs : Reg) : Sys2Proof.Laws.Row.Statement (.srlv rd rt rs) :=
  packR_row (mask := 0xFC00007F#32) (bits := 0x00000006#32) 0x3F#6 0x0#5 0x0#5 0x0#5 0x1#5 0x3F#6 (by decide) (by simp only [BitVec.and_zero]; decide)
theorem Sys2Proof.Laws.Row.srav (rd : Reg) (rt : Reg) (rs : Reg) : Sys2Proof.Laws.Row.Statement (.srav rd rt rs) :=
  packR_row (mask := 0xFC00003F#32) (bits := 0x00000007#32) 0x3F#6 0x0#5 0x0#5 0x0#5 0x0#5 0x3F#6 (by decide) (by simp only [BitVec.and_zero]; decide)
theorem Sys2Proof.Laws.Row.rotr (rd : Reg) (rt : Reg) (sa : Reg) : Sys2Proof.Laws.Row.Statement (.rotr rd rt sa) :=
  packR_row (mask := 0xFC20003F#32) (bits := 0x00200002#32) 0x3F#6 0x1#5 0x0#5 0x0#5 0x0#5 0x3F#6 (by decide) (by simp only [BitVec.and_zero]; decide)
theorem Sys2Proof.Laws.Row.rotrv (rd : Reg) (rt : Reg) (rs : Reg) : Sys2Proof.Laws.Row.Statement (.rotrv rd rt rs) :=
  packR_row (mask := 0xFC00007F#32) (bits := 0x00000046#32) 0x3F#6 0x0#5 0x0#5 0x0#5 0x1#5 0x3F#6 (by decide) (by simp only [BitVec.and_zero]; decide)
theorem Sys2Proof.Laws.Row.mult (rs : Reg) (rt : Reg) : Sys2Proof.Laws.Row.Statement (.mult rs rt) :=
  packR_row (mask := 0xFC0007FF#32) (bits := 0x00000018#32) 0x3F#6 0x0#5 0x0#5 0x0#5 0x1F#5 0x3F#6 (by decide) (by simp only [BitVec.and_zero]; decide)
theorem Sys2Proof.Laws.Row.multu (rs : Reg) (rt : Reg) : Sys2Proof.Laws.Row.Statement (.multu rs rt) :=
  packR_row (mask := 0xFC0007FF#32) (bits := 0x00000019#32) 0x3F#6 0x0#5 0x0#5 0x0#5 0x1F#5 0x3F#6 (by decide) (by simp only [BitVec.and_zero]; decide)
theorem Sys2Proof.Laws.Row.div (rs : Reg) (rt : Reg) : Sys2Proof.Laws.Row.Statement (.div rs rt) :=
  packR_row (mask := 0xFC0007FF#32) (bits := 0x0000001A#32) 0x3F#6 0x0#5 0x0#5 0x0#5 0x1F#5 0x3F#6 (by decide) (by simp only [BitVec.and_zero]; decide)
theorem Sys2Proof.Laws.Row.divu (rs : Reg) (rt : Reg) : Sys2Proof.Laws.Row.Statement (.divu rs rt) :=
  packR_row (mask := 0xFC0007FF#32) (bits := 0x0000001B#32) 0x3F#6 0x0#5 0x0#5 0x0#5 0x1F#5 0x3F#6 (by decide) (by simp only [BitVec.and_zero]; decide)
theorem Sys2Proof.Laws.Row.mfhi (rd : Reg) : Sys2Proof.Laws.Row.Statement (.mfhi rd) :=
  packR_row (mask := 0xFC0007FF#32) (bits := 0x00000010#32) 0x3F#6 0x0#5 0x0#5 0x0#5 0x1F#5 0x3F#6 (by decide) (by simp only [BitVec.and_zero]; decide)
theorem Sys2Proof.Laws.Row.mflo (rd : Reg) : Sys2Proof.Laws.Row.Statement (.mflo rd) :=
  packR_row (mask := 0xFC00003F#32) (bits := 0x00000012#32) 0x3F#6 0x0#5 0x0#5 0x0#5 0x0#5 0x3F#6 (by decide) (by simp only [BitVec.and_zero]; decide)
theorem Sys2Proof.Laws.Row.mthi (rs : Reg) : Sys2Proof.Laws.Row.Statement (.mthi rs) :=
  packR_row (mask := 0xFC0007FF#32) (bits := 0x00000011#32) 0x3F#6 0x0#5 0x0#5 0x0#5 0x1F#5 0x3F#6 (by decide) (by simp only [BitVec.and_zero]; decide)
theorem Sys2Proof.Laws.Row.mtlo (rs : Reg) : Sys2Proof.Laws.Row.Statement (.mtlo rs) :=
  packR_row (mask := 0xFC00003F#32) (bits := 0x00000013#32) 0x3F#6 0x0#5 0x0#5 0x0#5 0x0#5 0x3F#6 (by decide) (by simp only [BitVec.and_zero]; decide)
theorem Sys2Proof.Laws.Row.madd (rs : Reg) (rt : Reg) : Sys2Proof.Laws.Row.Statement (.madd rs rt) :=
  packR_row (mask := 0xFC00003F#32) (bits := 0x70000000#32) 0x3F#6 0x0#5 0x0#5 0x0#5 0x0#5 0x3F#6 (by decide) (by simp only [BitVec.and_zero]; decide)
theorem Sys2Proof.Laws.Row.maddu (rs : Reg) (rt : Reg) : Sys2Proof.Laws.Row.Statement (.maddu rs rt) :=
  packR_row (mask := 0xFC00003F#32) (bits := 0x70000001#32) 0x3F#6 0x0#5 0x0#5 0x0#5 0x0#5 0x3F#6 (by decide) (by simp only [BitVec.and_zero]; decide)
theorem Sys2Proof.Laws.Row.msub (rs : Reg) (rt : Reg) : Sys2Proof.Laws.Row.Statement (.msub rs rt) :=
  packR_row (mask := 0xFC00003F#32) (bits := 0x70000004#32) 0x3F#6 0x0#5 0x0#5 0x0#5 0x0#5 0x3F#6 (by decide) (by simp only [BitVec.and_zero]; decide)
theorem Sys2Proof.Laws.Row.msubu (rs : Reg) (rt : Reg) : Sys2Proof.Laws.Row.Statement (.msubu rs rt) :=
  packR_row (mask := 0xFC00003F#32) (bits := 0x70000005#32) 0x3F#6 0x0#5 0x0#5 0x0#5 0x0#5 0x3F#6 (by decide) (by simp only [BitVec.and_zero]; decide)
theorem Sys2Proof.Laws.Row.mul (rd : Reg) (rs : Reg) (rt : Reg) : Sys2Proof.Laws.Row.Statement (.mul rd rs rt) :=
  packR_row (mask := 0xFC0007FF#32) (bits := 0x00000098#32) 0x3F#6 0x0#5 0x0#5 0x0#5 0x1F#5 0x3F#6 (by decide) (by simp only [BitVec.and_zero]; decide)
theorem Sys2Proof.Laws.Row.muh (rd : Reg) (rs : Reg) (rt : Reg) : Sys2Proof.Laws.Row.Statement (.muh rd rs rt) :=
  packR_row (mask := 0xFC0007FF#32) (bits := 0x000000D8#32) 0x3F#6 0x0#5 0x0#5 0x0#5 0x1F#5 0x3F#6 (by decide) (by simp only [BitVec.and_zero]; decide)
theorem Sys2Proof.Laws.Row.mulu (rd : Reg) (rs : Reg) (rt : Reg) : Sys2Proof.Laws.Row.Statement (.mulu rd rs rt) :=
  packR_row (mask := 0xFC0007FF#32) (bits := 0x00000099#32) 0x3F#6 0x0#5 0x0#5 0x0#5 0x1F#5 0x3F#6 (by decide) (by simp only [BitVec.and_zero]; decide)
theorem Sys2Proof.Laws.Row.muhu (rd : Reg) (rs : Reg) (rt : Reg) : Sys2Proof.Laws.Row.Statement (.muhu rd rs rt) :=
  packR_row (mask := 0xFC0007FF#32) (bits := 0x000000D9#32) 0x3F#6 0x0#5 0x0#5 0x0#5 0x1F#5 0x3F#6 (by decide) (by simp only [BitVec.and_zero]; decide)
theorem Sys2Proof.Laws.Row.divR6 (rd : Reg) (rs : Reg) (rt : Reg) : Sys2Proof.Laws.Row.Statement (.divR6 rd rs rt) :=
  packR_row (mask := 0xFC0007FF#32) (bits := 0x0000009A#32) 0x3F#6 0x0#5 0x0#5 0x0#5 0x1F#5 0x3F#6 (by decide) (by simp only [BitVec.and_zero]; decide)
theorem Sys2Proof.Laws.Row.mod (rd : Reg) (rs : Reg) (rt : Reg) : Sys2Proof.Laws.Row.Statement (.mod rd rs rt) :=
  packR_row (mask := 0xFC0007FF#32) (bits := 0x000000DA#32) 0x3F#6 0x0#5 0x0#5 0x0#5 0x1F#5 0x3F#6 (by decide) (by simp only [BitVec.and_zero]; decide)
theorem Sys2Proof.Laws.Row.divuR6 (rd : Reg) (rs : Reg) (rt : Reg) : Sys2Proof.Laws.Row.Statement (.divuR6 rd rs rt) :=
  packR_row (mask := 0xFC0007FF#32) (bits := 0x0000009B#32) 0x3F#6 0x0#5 0x0#5 0x0#5 0x1F#5 0x3F#6 (by decide) (by simp only [BitVec.and_zero]; decide)
theorem Sys2Proof.Laws.Row.modu (rd : Reg) (rs : Reg) (rt : Reg) : Sys2Proof.Laws.Row.Statement (.modu rd rs rt) :=
  packR_row (mask := 0xFC0007FF#32) (bits := 0x000000DB#32) 0x3F#6 0x0#5 0x0#5 0x0#5 0x1F#5 0x3F#6 (by decide) (by simp only [BitVec.and_zero]; decide)
theorem Sys2Proof.Laws.Row.j (index : BitVec 26) : Sys2Proof.Laws.Row.Statement (.j index) :=
  packJ_row (mask := 0xFC000000#32) (bits := 0x08000000#32) 0x3F#6 0x0#26 (by decide) (by simp only [BitVec.and_zero]; decide)
theorem Sys2Proof.Laws.Row.jal (index : BitVec 26) : Sys2Proof.Laws.Row.Statement (.jal index) :=
  packJ_row (mask := 0xFC000000#32) (bits := 0x0C000000#32) 0x3F#6 0x0#26 (by decide) (by simp only [BitVec.and_zero]; decide)
theorem Sys2Proof.Laws.Row.jr (rs : Reg) : Sys2Proof.Laws.Row.Statement (.jr rs) :=
  packR_row (mask := 0xFC00003F#32) (bits := 0x00000008#32) 0x3F#6 0x0#5 0x0#5 0x0#5 0x0#5 0x3F#6 (by decide) (by simp only [BitVec.and_zero]; decide)
theorem Sys2Proof.Laws.Row.jalr (rd : Reg) (rs : Reg) : Sys2Proof.Laws.Row.Statement (.jalr rd rs) :=
  packR_row (mask := 0xFC00003F#32) (bits := 0x00000009#32) 0x3F#6 0x0#5 0x0#5 0x0#5 0x0#5 0x3F#6 (by decide) (by simp only [BitVec.and_zero]; decide)
theorem Sys2Proof.Laws.Row.beq (rs : Reg) (rt : Reg) (imm : Half) : Sys2Proof.Laws.Row.Statement (.beq rs rt imm) :=
  packI_row (mask := 0xFC000000#32) (bits := 0x10000000#32) 0x3F#6 0x0#5 0x0#5 0x0#16 (by decide) (by simp only [BitVec.and_zero]; decide)
theorem Sys2Proof.Laws.Row.bne (rs : Reg) (rt : Reg) (imm : Half) : Sys2Proof.Laws.Row.Statement (.bne rs rt imm) :=
  packI_row (mask := 0xFC000000#32) (bits := 0x14000000#32) 0x3F#6 0x0#5 0x0#5 0x0#16 (by decide) (by simp only [BitVec.and_zero]; decide)
theorem Sys2Proof.Laws.Row.blez (rs : Reg) (imm : Half) : Sys2Proof.Laws.Row.Statement (.blez rs imm) :=
  packI_row (mask := 0xFC000000#32) (bits := 0x18000000#32) 0x3F#6 0x0#5 0x0#5 0x0#16 (by decide) (by simp only [BitVec.and_zero]; decide)
theorem Sys2Proof.Laws.Row.bgtz (rs : Reg) (imm : Half) : Sys2Proof.Laws.Row.Statement (.bgtz rs imm) :=
  packI_row (mask := 0xFC000000#32) (bits := 0x1C000000#32) 0x3F#6 0x0#5 0x0#5 0x0#16 (by decide) (by simp only [BitVec.and_zero]; decide)
theorem Sys2Proof.Laws.Row.bltz (rs : Reg) (imm : Half) : Sys2Proof.Laws.Row.Statement (.bltz rs imm) :=
  packI_row (mask := 0xFC1F0000#32) (bits := 0x04000000#32) 0x3F#6 0x0#5 0x1F#5 0x0#16 (by decide) (by simp only [BitVec.and_zero]; decide)
theorem Sys2Proof.Laws.Row.bgez (rs : Reg) (imm : Half) : Sys2Proof.Laws.Row.Statement (.bgez rs imm) :=
  packI_row (mask := 0xFC1F0000#32) (bits := 0x04010000#32) 0x3F#6 0x0#5 0x1F#5 0x0#16 (by decide) (by simp only [BitVec.and_zero]; decide)
theorem Sys2Proof.Laws.Row.bltzal (rs : Reg) (imm : Half) : Sys2Proof.Laws.Row.Statement (.bltzal rs imm) :=
  packI_row (mask := 0xFC1F0000#32) (bits := 0x04100000#32) 0x3F#6 0x0#5 0x1F#5 0x0#16 (by decide) (by simp only [BitVec.and_zero]; decide)
theorem Sys2Proof.Laws.Row.nal (imm : Half) : Sys2Proof.Laws.Row.Statement (.nal imm) :=
  packI_row (mask := 0xFC1F0000#32) (bits := 0x04100000#32) 0x3F#6 0x0#5 0x1F#5 0x0#16 (by decide) (by simp only [BitVec.and_zero]; decide)
theorem Sys2Proof.Laws.Row.bgezal (rs : Reg) (imm : Half) : Sys2Proof.Laws.Row.Statement (.bgezal rs imm) :=
  packI_row (mask := 0xFC1F0000#32) (bits := 0x04110000#32) 0x3F#6 0x0#5 0x1F#5 0x0#16 (by decide) (by simp only [BitVec.and_zero]; decide)
theorem Sys2Proof.Laws.Row.bal (imm : Half) : Sys2Proof.Laws.Row.Statement (.bal imm) :=
  packI_row (mask := 0xFC1F0000#32) (bits := 0x04110000#32) 0x3F#6 0x0#5 0x1F#5 0x0#16 (by decide) (by simp only [BitVec.and_zero]; decide)
theorem Sys2Proof.Laws.Row.bc (off26 : BitVec 26) : Sys2Proof.Laws.Row.Statement (.bc off26) :=
  packJ_row (mask := 0xFC000000#32) (bits := 0xC8000000#32) 0x3F#6 0x0#26 (by decide) (by simp only [BitVec.and_zero]; decide)
theorem Sys2Proof.Laws.Row.balc (off26 : BitVec 26) : Sys2Proof.Laws.Row.Statement (.balc off26) :=
  packJ_row (mask := 0xFC000000#32) (bits := 0xE8000000#32) 0x3F#6 0x0#26 (by decide) (by simp only [BitVec.and_zero]; decide)
theorem Sys2Proof.Laws.Row.beqc (rs : Reg) (rt : Reg) (imm : Half) : Sys2Proof.Laws.Row.Statement (.beqc rs rt imm) :=
  packI_row (mask := 0xFC000000#32) (bits := 0x20000000#32) 0x3F#6 0x0#5 0x0#5 0x0#16 (by decide) (by simp only [BitVec.and_zero]; decide)
theorem Sys2Proof.Laws.Row.bnec (rs : Reg) (rt : Reg) (imm : Half) : Sys2Proof.Laws.Row.Statement (.bnec rs rt imm) :=
  packI_row (mask := 0xFC000000#32) (bits := 0x60000000#32) 0x3F#6 0x0#5 0x0#5 0x0#16 (by decide) (by simp only [BitVec.and_zero]; decide)
theorem Sys2Proof.Laws.Row.bltc (rs : Reg) (rt : Reg) (imm : Half) : Sys2Proof.Laws.Row.Statement (.bltc rs rt imm) :=
  packI_row (mask := 0xFC000000#32) (bits := 0x5C000000#32) 0x3F#6 0x0#5 0x0#5 0x0#16 (by decide) (by simp only [BitVec.and_zero]; decide)
theorem Sys2Proof.Laws.Row.bgec (rs : Reg) (rt : Reg) (imm : Half) : Sys2Proof.Laws.Row.Statement (.bgec rs rt imm) :=
  packI_row (mask := 0xFC000000#32) (bits := 0x58000000#32) 0x3F#6 0x0#5 0x0#5 0x0#16 (by decide) (by simp only [BitVec.and_zero]; decide)
theorem Sys2Proof.Laws.Row.bltuc (rs : Reg) (rt : Reg) (imm : Half) : Sys2Proof.Laws.Row.Statement (.bltuc rs rt imm) :=
  packI_row (mask := 0xFC000000#32) (bits := 0x1C000000#32) 0x3F#6 0x0#5 0x0#5 0x0#16 (by decide) (by simp only [BitVec.and_zero]; decide)
theorem Sys2Proof.Laws.Row.bgeuc (rs : Reg) (rt : Reg) (imm : Half) : Sys2Proof.Laws.Row.Statement (.bgeuc rs rt imm) :=
  packI_row (mask := 0xFC000000#32) (bits := 0x18000000#32) 0x3F#6 0x0#5 0x0#5 0x0#16 (by decide) (by simp only [BitVec.and_zero]; decide)
theorem Sys2Proof.Laws.Row.blezc (rt : Reg) (imm : Half) : Sys2Proof.Laws.Row.Statement (.blezc rt imm) :=
  packI_row (mask := 0xFC000000#32) (bits := 0x58000000#32) 0x3F#6 0x0#5 0x0#5 0x0#16 (by decide) (by simp only [BitVec.and_zero]; decide)
theorem Sys2Proof.Laws.Row.bgezc (rt : Reg) (imm : Half) : Sys2Proof.Laws.Row.Statement (.bgezc rt imm) :=
  packI_row (mask := 0xFC000000#32) (bits := 0x58000000#32) 0x3F#6 0x0#5 0x0#5 0x0#16 (by decide) (by simp only [BitVec.and_zero]; decide)
theorem Sys2Proof.Laws.Row.bgtzc (rt : Reg) (imm : Half) : Sys2Proof.Laws.Row.Statement (.bgtzc rt imm) :=
  packI_row (mask := 0xFC000000#32) (bits := 0x5C000000#32) 0x3F#6 0x0#5 0x0#5 0x0#16 (by decide) (by simp only [BitVec.and_zero]; decide)
theorem Sys2Proof.Laws.Row.bltzc (rt : Reg) (imm : Half) : Sys2Proof.Laws.Row.Statement (.bltzc rt imm) :=
  packI_row (mask := 0xFC000000#32) (bits := 0x5C000000#32) 0x3F#6 0x0#5 0x0#5 0x0#16 (by decide) (by simp only [BitVec.and_zero]; decide)
theorem Sys2Proof.Laws.Row.beqzc (rs : Reg) (imm : Half) : Sys2Proof.Laws.Row.Statement (.beqzc rs imm) :=
  packI_row (mask := 0xFC000000#32) (bits := 0xD8000000#32) 0x3F#6 0x0#5 0x0#5 0x0#16 (by decide) (by simp only [BitVec.and_zero]; decide)
theorem Sys2Proof.Laws.Row.bnezc (rs : Reg) (imm : Half) : Sys2Proof.Laws.Row.Statement (.bnezc rs imm) :=
  packI_row (mask := 0xFC000000#32) (bits := 0xF8000000#32) 0x3F#6 0x0#5 0x0#5 0x0#16 (by decide) (by simp only [BitVec.and_zero]; decide)
theorem Sys2Proof.Laws.Row.bovc (rs : Reg) (rt : Reg) (imm : Half) : Sys2Proof.Laws.Row.Statement (.bovc rs rt imm) :=
  packI_row (mask := 0xFC000000#32) (bits := 0x20000000#32) 0x3F#6 0x0#5 0x0#5 0x0#16 (by decide) (by simp only [BitVec.and_zero]; decide)
theorem Sys2Proof.Laws.Row.bnvc (rs : Reg) (rt : Reg) (imm : Half) : Sys2Proof.Laws.Row.Statement (.bnvc rs rt imm) :=
  packI_row (mask := 0xFC000000#32) (bits := 0x60000000#32) 0x3F#6 0x0#5 0x0#5 0x0#16 (by decide) (by simp only [BitVec.and_zero]; decide)
theorem Sys2Proof.Laws.Row.blezalc (rt : Reg) (imm : Half) : Sys2Proof.Laws.Row.Statement (.blezalc rt imm) :=
  packI_row (mask := 0xFC000000#32) (bits := 0x18000000#32) 0x3F#6 0x0#5 0x0#5 0x0#16 (by decide) (by simp only [BitVec.and_zero]; decide)
theorem Sys2Proof.Laws.Row.bgezalc (rt : Reg) (imm : Half) : Sys2Proof.Laws.Row.Statement (.bgezalc rt imm) :=
  packI_row (mask := 0xFC000000#32) (bits := 0x18000000#32) 0x3F#6 0x0#5 0x0#5 0x0#16 (by decide) (by simp only [BitVec.and_zero]; decide)
theorem Sys2Proof.Laws.Row.bgtzalc (rt : Reg) (imm : Half) : Sys2Proof.Laws.Row.Statement (.bgtzalc rt imm) :=
  packI_row (mask := 0xFC000000#32) (bits := 0x1C000000#32) 0x3F#6 0x0#5 0x0#5 0x0#16 (by decide) (by simp only [BitVec.and_zero]; decide)
theorem Sys2Proof.Laws.Row.bltzalc (rt : Reg) (imm : Half) : Sys2Proof.Laws.Row.Statement (.bltzalc rt imm) :=
  packI_row (mask := 0xFC000000#32) (bits := 0x1C000000#32) 0x3F#6 0x0#5 0x0#5 0x0#16 (by decide) (by simp only [BitVec.and_zero]; decide)
theorem Sys2Proof.Laws.Row.beqzalc (rt : Reg) (imm : Half) : Sys2Proof.Laws.Row.Statement (.beqzalc rt imm) :=
  packI_row (mask := 0xFC000000#32) (bits := 0x20000000#32) 0x3F#6 0x0#5 0x0#5 0x0#16 (by decide) (by simp only [BitVec.and_zero]; decide)
theorem Sys2Proof.Laws.Row.bnezalc (rt : Reg) (imm : Half) : Sys2Proof.Laws.Row.Statement (.bnezalc rt imm) :=
  packI_row (mask := 0xFC000000#32) (bits := 0x60000000#32) 0x3F#6 0x0#5 0x0#5 0x0#16 (by decide) (by simp only [BitVec.and_zero]; decide)
theorem Sys2Proof.Laws.Row.jic (rt : Reg) (imm : Half) : Sys2Proof.Laws.Row.Statement (.jic rt imm) :=
  packI_row (mask := 0xFC000000#32) (bits := 0xD8000000#32) 0x3F#6 0x0#5 0x0#5 0x0#16 (by decide) (by simp only [BitVec.and_zero]; decide)
theorem Sys2Proof.Laws.Row.jialc (rt : Reg) (imm : Half) : Sys2Proof.Laws.Row.Statement (.jialc rt imm) :=
  packI_row (mask := 0xFC000000#32) (bits := 0xF8000000#32) 0x3F#6 0x0#5 0x0#5 0x0#16 (by decide) (by simp only [BitVec.and_zero]; decide)
theorem Sys2Proof.Laws.Row.addS (fd : Reg) (fs : Reg) (ft : Reg) : Sys2Proof.Laws.Row.Statement (.addS fd fs ft) :=
  packR_row (mask := 0xFFE0003F#32) (bits := 0x46000000#32) 0x3F#6 0x1F#5 0x0#5 0x0#5 0x0#5 0x3F#6 (by decide) (by simp only [BitVec.and_zero]; decide)
theorem Sys2Proof.Laws.Row.addD (fd : Reg) (fs : Reg) (ft : Reg) : Sys2Proof.Laws.Row.Statement (.addD fd fs ft) :=
  packR_row (mask := 0xFFE0003F#32) (bits := 0x46200000#32) 0x3F#6 0x1F#5 0x0#5 0x0#5 0x0#5 0x3F#6 (by decide) (by simp only [BitVec.and_zero]; decide)
theorem Sys2Proof.Laws.Row.subS (fd : Reg) (fs : Reg) (ft : Reg) : Sys2Proof.Laws.Row.Statement (.subS fd fs ft) :=
  packR_row (mask := 0xFFE0003F#32) (bits := 0x46000001#32) 0x3F#6 0x1F#5 0x0#5 0x0#5 0x0#5 0x3F#6 (by decide) (by simp only [BitVec.and_zero]; decide)
theorem Sys2Proof.Laws.Row.subD (fd : Reg) (fs : Reg) (ft : Reg) : Sys2Proof.Laws.Row.Statement (.subD fd fs ft) :=
  packR_row (mask := 0xFFE0003F#32) (bits := 0x46200001#32) 0x3F#6 0x1F#5 0x0#5 0x0#5 0x0#5 0x3F#6 (by decide) (by simp only [BitVec.and_zero]; decide)
theorem Sys2Proof.Laws.Row.mulS (fd : Reg) (fs : Reg) (ft : Reg) : Sys2Proof.Laws.Row.Statement (.mulS fd fs ft) :=
  packR_row (mask := 0xFFE0003F#32) (bits := 0x46000002#32) 0x3F#6 0x1F#5 0x0#5 0x0#5 0x0#5 0x3F#6 (by decide) (by simp only [BitVec.and_zero]; decide)
theorem Sys2Proof.Laws.Row.mulD (fd : Reg) (fs : Reg) (ft : Reg) : Sys2Proof.Laws.Row.Statement (.mulD fd fs ft) :=
  packR_row (mask := 0xFFE0003F#32) (bits := 0x46200002#32) 0x3F#6 0x1F#5 0x0#5 0x0#5 0x0#5 0x3F#6 (by decide) (by simp only [BitVec.and_zero]; decide)
theorem Sys2Proof.Laws.Row.divS (fd : Reg) (fs : Reg) (ft : Reg) : Sys2Proof.Laws.Row.Statement (.divS fd fs ft) :=
  packR_row (mask := 0xFFE0003F#32) (bits := 0x46000003#32) 0x3F#6 0x1F#5 0x0#5 0x0#5 0x0#5 0x3F#6 (by decide) (by simp only [BitVec.and_zero]; decide)
theorem Sys2Proof.Laws.Row.divD (fd : Reg) (fs : Reg) (ft : Reg) : Sys2Proof.Laws.Row.Statement (.divD fd fs ft) :=
  packR_row (mask := 0xFFE0003F#32) (bits := 0x46200003#32) 0x3F#6 0x1F#5 0x0#5 0x0#5 0x0#5 0x3F#6 (by decide) (by simp only [BitVec.and_zero]; decide)
theorem Sys2Proof.Laws.Row.sqrtS (fd : Reg) (fs : Reg) : Sys2Proof.Laws.Row.Statement (.sqrtS fd fs) :=
  packR_row (mask := 0xFFE0003F#32) (bits := 0x46000004#32) 0x3F#6 0x1F#5 0x0#5 0x0#5 0x0#5 0x3F#6 (by decide) (by simp only [BitVec.and_zero]; decide)
theorem Sys2Proof.Laws.Row.sqrtD (fd : Reg) (fs : Reg) : Sys2Proof.Laws.Row.Statement (.sqrtD fd fs) :=
  packR_row (mask := 0xFFE0003F#32) (bits := 0x46200004#32) 0x3F#6 0x1F#5 0x0#5 0x0#5 0x0#5 0x3F#6 (by decide) (by simp only [BitVec.and_zero]; decide)
theorem Sys2Proof.Laws.Row.absS (fd : Reg) (fs : Reg) : Sys2Proof.Laws.Row.Statement (.absS fd fs) :=
  packR_row (mask := 0xFFE0003F#32) (bits := 0x46000005#32) 0x3F#6 0x1F#5 0x0#5 0x0#5 0x0#5 0x3F#6 (by decide) (by simp only [BitVec.and_zero]; decide)
theorem Sys2Proof.Laws.Row.absD (fd : Reg) (fs : Reg) : Sys2Proof.Laws.Row.Statement (.absD fd fs) :=
  packR_row (mask := 0xFFE0003F#32) (bits := 0x46200005#32) 0x3F#6 0x1F#5 0x0#5 0x0#5 0x0#5 0x3F#6 (by decide) (by simp only [BitVec.and_zero]; decide)
theorem Sys2Proof.Laws.Row.movS (fd : Reg) (fs : Reg) : Sys2Proof.Laws.Row.Statement (.movS fd fs) :=
  packR_row (mask := 0xFFE0003F#32) (bits := 0x46000006#32) 0x3F#6 0x1F#5 0x0#5 0x0#5 0x0#5 0x3F#6 (by decide) (by simp only [BitVec.and_zero]; decide)
theorem Sys2Proof.Laws.Row.movD (fd : Reg) (fs : Reg) : Sys2Proof.Laws.Row.Statement (.movD fd fs) :=
  packR_row (mask := 0xFFE0003F#32) (bits := 0x46200006#32) 0x3F#6 0x1F#5 0x0#5 0x0#5 0x0#5 0x3F#6 (by decide) (by simp only [BitVec.and_zero]; decide)
theorem Sys2Proof.Laws.Row.negS (fd : Reg) (fs : Reg) : Sys2Proof.Laws.Row.Statement (.negS fd fs) :=
  packR_row (mask := 0xFFE0003F#32) (bits := 0x46000007#32) 0x3F#6 0x1F#5 0x0#5 0x0#5 0x0#5 0x3F#6 (by decide) (by simp only [BitVec.and_zero]; decide)
theorem Sys2Proof.Laws.Row.negD (fd : Reg) (fs : Reg) : Sys2Proof.Laws.Row.Statement (.negD fd fs) :=
  packR_row (mask := 0xFFE0003F#32) (bits := 0x46200007#32) 0x3F#6 0x1F#5 0x0#5 0x0#5 0x0#5 0x3F#6 (by decide) (by simp only [BitVec.and_zero]; decide)
theorem Sys2Proof.Laws.Row.recipS (fd : Reg) (fs : Reg) : Sys2Proof.Laws.Row.Statement (.recipS fd fs) :=
  packR_row (mask := 0xFFE0003F#32) (bits := 0x46000015#32) 0x3F#6 0x1F#5 0x0#5 0x0#5 0x0#5 0x3F#6 (by decide) (by simp only [BitVec.and_zero]; decide)
theorem Sys2Proof.Laws.Row.recipD (fd : Reg) (fs : Reg) : Sys2Proof.Laws.Row.Statement (.recipD fd fs) :=
  packR_row (mask := 0xFFE0003F#32) (bits := 0x46200015#32) 0x3F#6 0x1F#5 0x0#5 0x0#5 0x0#5 0x3F#6 (by decide) (by simp only [BitVec.and_zero]; decide)
theorem Sys2Proof.Laws.Row.rsqrtS (fd : Reg) (fs : Reg) : Sys2Proof.Laws.Row.Statement (.rsqrtS fd fs) :=
  packR_row (mask := 0xFFE0003F#32) (bits := 0x46000016#32) 0x3F#6 0x1F#5 0x0#5 0x0#5 0x0#5 0x3F#6 (by decide) (by simp only [BitVec.and_zero]; decide)
theorem Sys2Proof.Laws.Row.rsqrtD (fd : Reg) (fs : Reg) : Sys2Proof.Laws.Row.Statement (.rsqrtD fd fs) :=
  packR_row (mask := 0xFFE0003F#32) (bits := 0x46200016#32) 0x3F#6 0x1F#5 0x0#5 0x0#5 0x0#5 0x3F#6 (by decide) (by simp only [BitVec.and_zero]; decide)
theorem Sys2Proof.Laws.Row.maddfS (fd : Reg) (fs : Reg) (ft : Reg) : Sys2Proof.Laws.Row.Statement (.maddfS fd fs ft) :=
  packR_row (mask := 0xFFE0003F#32) (bits := 0x46000018#32) 0x3F#6 0x1F#5 0x0#5 0x0#5 0x0#5 0x3F#6 (by decide) (by simp only [BitVec.and_zero]; decide)
theorem Sys2Proof.Laws.Row.maddfD (fd : Reg) (fs : Reg) (ft : Reg) : Sys2Proof.Laws.Row.Statement (.maddfD fd fs ft) :=
  packR_row (mask := 0xFFE0003F#32) (bits := 0x46200018#32) 0x3F#6 0x1F#5 0x0#5 0x0#5 0x0#5 0x3F#6 (by decide) (by simp only [BitVec.and_zero]; decide)
theorem Sys2Proof.Laws.Row.msubfS (fd : Reg) (fs : Reg) (ft : Reg) : Sys2Proof.Laws.Row.Statement (.msubfS fd fs ft) :=
  packR_row (mask := 0xFFE0003F#32) (bits := 0x46000019#32) 0x3F#6 0x1F#5 0x0#5 0x0#5 0x0#5 0x3F#6 (by decide) (by simp only [BitVec.and_zero]; decide)
theorem Sys2Proof.Laws.Row.msubfD (fd : Reg) (fs : Reg) (ft : Reg) : Sys2Proof.Laws.Row.Statement (.msubfD fd fs ft) :=
  packR_row (mask := 0xFFE0003F#32) (bits := 0x46200019#32) 0x3F#6 0x1F#5 0x0#5 0x0#5 0x0#5 0x3F#6 (by decide) (by simp only [BitVec.and_zero]; decide)
theorem Sys2Proof.Laws.Row.rintS (fd : Reg) (fs : Reg) : Sys2Proof.Laws.Row.Statement (.rintS fd fs) :=
  packR_row (mask := 0xFFE0003F#32) (bits := 0x4600001A#32) 0x3F#6 0x1F#5 0x0#5 0x0#5 0x0#5 0x3F#6 (by decide) (by simp only [BitVec.and_zero]; decide)
theorem Sys2Proof.Laws.Row.rintD (fd : Reg) (fs : Reg) : Sys2Proof.Laws.Row.Statement (.rintD fd fs) :=
  packR_row (mask := 0xFFE0003F#32) (bits := 0x4620001A#32) 0x3F#6 0x1F#5 0x0#5 0x0#5 0x0#5 0x3F#6 (by decide) (by simp only [BitVec.and_zero]; decide)
theorem Sys2Proof.Laws.Row.classS (fd : Reg) (fs : Reg) : Sys2Proof.Laws.Row.Statement (.classS fd fs) :=
  packR_row (mask := 0xFFE0003F#32) (bits := 0x4600001B#32) 0x3F#6 0x1F#5 0x0#5 0x0#5 0x0#5 0x3F#6 (by decide) (by simp only [BitVec.and_zero]; decide)
theorem Sys2Proof.Laws.Row.classD (fd : Reg) (fs : Reg) : Sys2Proof.Laws.Row.Statement (.classD fd fs) :=
  packR_row (mask := 0xFFE0003F#32) (bits := 0x4620001B#32) 0x3F#6 0x1F#5 0x0#5 0x0#5 0x0#5 0x3F#6 (by decide) (by simp only [BitVec.and_zero]; decide)
theorem Sys2Proof.Laws.Row.minS (fd : Reg) (fs : Reg) (ft : Reg) : Sys2Proof.Laws.Row.Statement (.minS fd fs ft) :=
  packR_row (mask := 0xFFE0003F#32) (bits := 0x4600001C#32) 0x3F#6 0x1F#5 0x0#5 0x0#5 0x0#5 0x3F#6 (by decide) (by simp only [BitVec.and_zero]; decide)
theorem Sys2Proof.Laws.Row.minD (fd : Reg) (fs : Reg) (ft : Reg) : Sys2Proof.Laws.Row.Statement (.minD fd fs ft) :=
  packR_row (mask := 0xFFE0003F#32) (bits := 0x4620001C#32) 0x3F#6 0x1F#5 0x0#5 0x0#5 0x0#5 0x3F#6 (by decide) (by simp only [BitVec.and_zero]; decide)
theorem Sys2Proof.Laws.Row.minaS (fd : Reg) (fs : Reg) (ft : Reg) : Sys2Proof.Laws.Row.Statement (.minaS fd fs ft) :=
  packR_row (mask := 0xFFE0003F#32) (bits := 0x4600001D#32) 0x3F#6 0x1F#5 0x0#5 0x0#5 0x0#5 0x3F#6 (by decide) (by simp only [BitVec.and_zero]; decide)
theorem Sys2Proof.Laws.Row.minaD (fd : Reg) (fs : Reg) (ft : Reg) : Sys2Proof.Laws.Row.Statement (.minaD fd fs ft) :=
  packR_row (mask := 0xFFE0003F#32) (bits := 0x4620001D#32) 0x3F#6 0x1F#5 0x0#5 0x0#5 0x0#5 0x3F#6 (by decide) (by simp only [BitVec.and_zero]; decide)
theorem Sys2Proof.Laws.Row.maxS (fd : Reg) (fs : Reg) (ft : Reg) : Sys2Proof.Laws.Row.Statement (.maxS fd fs ft) :=
  packR_row (mask := 0xFFE0003F#32) (bits := 0x4600001E#32) 0x3F#6 0x1F#5 0x0#5 0x0#5 0x0#5 0x3F#6 (by decide) (by simp only [BitVec.and_zero]; decide)
theorem Sys2Proof.Laws.Row.maxD (fd : Reg) (fs : Reg) (ft : Reg) : Sys2Proof.Laws.Row.Statement (.maxD fd fs ft) :=
  packR_row (mask := 0xFFE0003F#32) (bits := 0x4620001E#32) 0x3F#6 0x1F#5 0x0#5 0x0#5 0x0#5 0x3F#6 (by decide) (by simp only [BitVec.and_zero]; decide)
theorem Sys2Proof.Laws.Row.maxaS (fd : Reg) (fs : Reg) (ft : Reg) : Sys2Proof.Laws.Row.Statement (.maxaS fd fs ft) :=
  packR_row (mask := 0xFFE0003F#32) (bits := 0x4600001F#32) 0x3F#6 0x1F#5 0x0#5 0x0#5 0x0#5 0x3F#6 (by decide) (by simp only [BitVec.and_zero]; decide)
theorem Sys2Proof.Laws.Row.maxaD (fd : Reg) (fs : Reg) (ft : Reg) : Sys2Proof.Laws.Row.Statement (.maxaD fd fs ft) :=
  packR_row (mask := 0xFFE0003F#32) (bits := 0x4620001F#32) 0x3F#6 0x1F#5 0x0#5 0x0#5 0x0#5 0x3F#6 (by decide) (by simp only [BitVec.and_zero]; decide)
theorem Sys2Proof.Laws.Row.selS (fd : Reg) (fs : Reg) (ft : Reg) : Sys2Proof.Laws.Row.Statement (.selS fd fs ft) :=
  packR_row (mask := 0xFFE0003F#32) (bits := 0x46000010#32) 0x3F#6 0x1F#5 0x0#5 0x0#5 0x0#5 0x3F#6 (by decide) (by simp only [BitVec.and_zero]; decide)
theorem Sys2Proof.Laws.Row.seleqzS (fd : Reg) (fs : Reg) (ft : Reg) : Sys2Proof.Laws.Row.Statement (.seleqzS fd fs ft) :=
  packR_row (mask := 0xFFE0003F#32) (bits := 0x46000014#32) 0x3F#6 0x1F#5 0x0#5 0x0#5 0x0#5 0x3F#6 (by decide) (by simp only [BitVec.and_zero]; decide)
theorem Sys2Proof.Laws.Row.selnezS (fd : Reg) (fs : Reg) (ft : Reg) : Sys2Proof.Laws.Row.Statement (.selnezS fd fs ft) :=
  packR_row (mask := 0xFFE0003F#32) (bits := 0x46000017#32) 0x3F#6 0x1F#5 0x0#5 0x0#5 0x0#5 0x3F#6 (by decide) (by simp only [BitVec.and_zero]; decide)
theorem Sys2Proof.Laws.Row.selD (fd : Reg) (fs : Reg) (ft : Reg) : Sys2Proof.Laws.Row.Statement (.selD fd fs ft) :=
  packR_row (mask := 0xFFE0003F#32) (bits := 0x46200010#32) 0x3F#6 0x1F#5 0x0#5 0x0#5 0x0#5 0x3F#6 (by decide) (by simp only [BitVec.and_zero]; decide)
theorem Sys2Proof.Laws.Row.seleqzD (fd : Reg) (fs : Reg) (ft : Reg) : Sys2Proof.Laws.Row.Statement (.seleqzD fd fs ft) :=
  packR_row (mask := 0xFFE0003F#32) (bits := 0x46200014#32) 0x3F#6 0x1F#5 0x0#5 0x0#5 0x0#5 0x3F#6 (by decide) (by simp only [BitVec.and_zero]; decide)
theorem Sys2Proof.Laws.Row.selnezD (fd : Reg) (fs : Reg) (ft : Reg) : Sys2Proof.Laws.Row.Statement (.selnezD fd fs ft) :=
  packR_row (mask := 0xFFE0003F#32) (bits := 0x46200017#32) 0x3F#6 0x1F#5 0x0#5 0x0#5 0x0#5 0x3F#6 (by decide) (by simp only [BitVec.and_zero]; decide)
theorem Sys2Proof.Laws.Row.cmpAfS (fd : Reg) (fs : Reg) (ft : Reg) : Sys2Proof.Laws.Row.Statement (.cmpAfS fd fs ft) :=
  packR_row (mask := 0xFFE0003F#32) (bits := 0x46800000#32) 0x3F#6 0x1F#5 0x0#5 0x0#5 0x0#5 0x3F#6 (by decide) (by simp only [BitVec.and_zero]; decide)
theorem Sys2Proof.Laws.Row.cmpAfD (fd : Reg) (fs : Reg) (ft : Reg) : Sys2Proof.Laws.Row.Statement (.cmpAfD fd fs ft) :=
  packR_row (mask := 0xFFE0003F#32) (bits := 0x46A00000#32) 0x3F#6 0x1F#5 0x0#5 0x0#5 0x0#5 0x3F#6 (by decide) (by simp only [BitVec.and_zero]; decide)
theorem Sys2Proof.Laws.Row.cmpUnS (fd : Reg) (fs : Reg) (ft : Reg) : Sys2Proof.Laws.Row.Statement (.cmpUnS fd fs ft) :=
  packR_row (mask := 0xFFE0003F#32) (bits := 0x46800001#32) 0x3F#6 0x1F#5 0x0#5 0x0#5 0x0#5 0x3F#6 (by decide) (by simp only [BitVec.and_zero]; decide)
theorem Sys2Proof.Laws.Row.cmpUnD (fd : Reg) (fs : Reg) (ft : Reg) : Sys2Proof.Laws.Row.Statement (.cmpUnD fd fs ft) :=
  packR_row (mask := 0xFFE0003F#32) (bits := 0x46A00001#32) 0x3F#6 0x1F#5 0x0#5 0x0#5 0x0#5 0x3F#6 (by decide) (by simp only [BitVec.and_zero]; decide)
theorem Sys2Proof.Laws.Row.cmpEqS (fd : Reg) (fs : Reg) (ft : Reg) : Sys2Proof.Laws.Row.Statement (.cmpEqS fd fs ft) :=
  packR_row (mask := 0xFFE0003F#32) (bits := 0x46800002#32) 0x3F#6 0x1F#5 0x0#5 0x0#5 0x0#5 0x3F#6 (by decide) (by simp only [BitVec.and_zero]; decide)
theorem Sys2Proof.Laws.Row.cmpEqD (fd : Reg) (fs : Reg) (ft : Reg) : Sys2Proof.Laws.Row.Statement (.cmpEqD fd fs ft) :=
  packR_row (mask := 0xFFE0003F#32) (bits := 0x46A00002#32) 0x3F#6 0x1F#5 0x0#5 0x0#5 0x0#5 0x3F#6 (by decide) (by simp only [BitVec.and_zero]; decide)
theorem Sys2Proof.Laws.Row.cmpUeqS (fd : Reg) (fs : Reg) (ft : Reg) : Sys2Proof.Laws.Row.Statement (.cmpUeqS fd fs ft) :=
  packR_row (mask := 0xFFE0003F#32) (bits := 0x46800003#32) 0x3F#6 0x1F#5 0x0#5 0x0#5 0x0#5 0x3F#6 (by decide) (by simp only [BitVec.and_zero]; decide)
theorem Sys2Proof.Laws.Row.cmpUeqD (fd : Reg) (fs : Reg) (ft : Reg) : Sys2Proof.Laws.Row.Statement (.cmpUeqD fd fs ft) :=
  packR_row (mask := 0xFFE0003F#32) (bits := 0x46A00003#32) 0x3F#6 0x1F#5 0x0#5 0x0#5 0x0#5 0x3F#6 (by decide) (by simp only [BitVec.and_zero]; decide)
theorem Sys2Proof.Laws.Row.cmpLtS (fd : Reg) (fs : Reg) (ft : Reg) : Sys2Proof.Laws.Row.Statement (.cmpLtS fd fs ft) :=
  packR_row (mask := 0xFFE0003F#32) (bits := 0x46800004#32) 0x3F#6 0x1F#5 0x0#5 0x0#5 0x0#5 0x3F#6 (by decide) (by simp only [BitVec.and_zero]; decide)
theorem Sys2Proof.Laws.Row.cmpLtD (fd : Reg) (fs : Reg) (ft : Reg) : Sys2Proof.Laws.Row.Statement (.cmpLtD fd fs ft) :=
  packR_row (mask := 0xFFE0003F#32) (bits := 0x46A00004#32) 0x3F#6 0x1F#5 0x0#5 0x0#5 0x0#5 0x3F#6 (by decide) (by simp only [BitVec.and_zero]; decide)
theorem Sys2Proof.Laws.Row.cmpUltS (fd : Reg) (fs : Reg) (ft : Reg) : Sys2Proof.Laws.Row.Statement (.cmpUltS fd fs ft) :=
  packR_row (mask := 0xFFE0003F#32) (bits := 0x46800005#32) 0x3F#6 0x1F#5 0x0#5 0x0#5 0x0#5 0x3F#6 (by decide) (by simp only [BitVec.and_zero]; decide)
theorem Sys2Proof.Laws.Row.cmpUltD (fd : Reg) (fs : Reg) (ft : Reg) : Sys2Proof.Laws.Row.Statement (.cmpUltD fd fs ft) :=
  packR_row (mask := 0xFFE0003F#32) (bits := 0x46A00005#32) 0x3F#6 0x1F#5 0x0#5 0x0#5 0x0#5 0x3F#6 (by decide) (by simp only [BitVec.and_zero]; decide)
theorem Sys2Proof.Laws.Row.cmpLeS (fd : Reg) (fs : Reg) (ft : Reg) : Sys2Proof.Laws.Row.Statement (.cmpLeS fd fs ft) :=
  packR_row (mask := 0xFFE0003F#32) (bits := 0x46800006#32) 0x3F#6 0x1F#5 0x0#5 0x0#5 0x0#5 0x3F#6 (by decide) (by simp only [BitVec.and_zero]; decide)
theorem Sys2Proof.Laws.Row.cmpLeD (fd : Reg) (fs : Reg) (ft : Reg) : Sys2Proof.Laws.Row.Statement (.cmpLeD fd fs ft) :=
  packR_row (mask := 0xFFE0003F#32) (bits := 0x46A00006#32) 0x3F#6 0x1F#5 0x0#5 0x0#5 0x0#5 0x3F#6 (by decide) (by simp only [BitVec.and_zero]; decide)
theorem Sys2Proof.Laws.Row.cmpUleS (fd : Reg) (fs : Reg) (ft : Reg) : Sys2Proof.Laws.Row.Statement (.cmpUleS fd fs ft) :=
  packR_row (mask := 0xFFE0003F#32) (bits := 0x46800007#32) 0x3F#6 0x1F#5 0x0#5 0x0#5 0x0#5 0x3F#6 (by decide) (by simp only [BitVec.and_zero]; decide)
theorem Sys2Proof.Laws.Row.cmpUleD (fd : Reg) (fs : Reg) (ft : Reg) : Sys2Proof.Laws.Row.Statement (.cmpUleD fd fs ft) :=
  packR_row (mask := 0xFFE0003F#32) (bits := 0x46A00007#32) 0x3F#6 0x1F#5 0x0#5 0x0#5 0x0#5 0x3F#6 (by decide) (by simp only [BitVec.and_zero]; decide)
theorem Sys2Proof.Laws.Row.cmpSafS (fd : Reg) (fs : Reg) (ft : Reg) : Sys2Proof.Laws.Row.Statement (.cmpSafS fd fs ft) :=
  packR_row (mask := 0xFFE0003F#32) (bits := 0x46800008#32) 0x3F#6 0x1F#5 0x0#5 0x0#5 0x0#5 0x3F#6 (by decide) (by simp only [BitVec.and_zero]; decide)
theorem Sys2Proof.Laws.Row.cmpSafD (fd : Reg) (fs : Reg) (ft : Reg) : Sys2Proof.Laws.Row.Statement (.cmpSafD fd fs ft) :=
  packR_row (mask := 0xFFE0003F#32) (bits := 0x46A00008#32) 0x3F#6 0x1F#5 0x0#5 0x0#5 0x0#5 0x3F#6 (by decide) (by simp only [BitVec.and_zero]; decide)
theorem Sys2Proof.Laws.Row.cmpSunS (fd : Reg) (fs : Reg) (ft : Reg) : Sys2Proof.Laws.Row.Statement (.cmpSunS fd fs ft) :=
  packR_row (mask := 0xFFE0003F#32) (bits := 0x46800009#32) 0x3F#6 0x1F#5 0x0#5 0x0#5 0x0#5 0x3F#6 (by decide) (by simp only [BitVec.and_zero]; decide)
theorem Sys2Proof.Laws.Row.cmpSunD (fd : Reg) (fs : Reg) (ft : Reg) : Sys2Proof.Laws.Row.Statement (.cmpSunD fd fs ft) :=
  packR_row (mask := 0xFFE0003F#32) (bits := 0x46A00009#32) 0x3F#6 0x1F#5 0x0#5 0x0#5 0x0#5 0x3F#6 (by decide) (by simp only [BitVec.and_zero]; decide)
theorem Sys2Proof.Laws.Row.cmpSeqS (fd : Reg) (fs : Reg) (ft : Reg) : Sys2Proof.Laws.Row.Statement (.cmpSeqS fd fs ft) :=
  packR_row (mask := 0xFFE0003F#32) (bits := 0x4680000A#32) 0x3F#6 0x1F#5 0x0#5 0x0#5 0x0#5 0x3F#6 (by decide) (by simp only [BitVec.and_zero]; decide)
theorem Sys2Proof.Laws.Row.cmpSeqD (fd : Reg) (fs : Reg) (ft : Reg) : Sys2Proof.Laws.Row.Statement (.cmpSeqD fd fs ft) :=
  packR_row (mask := 0xFFE0003F#32) (bits := 0x46A0000A#32) 0x3F#6 0x1F#5 0x0#5 0x0#5 0x0#5 0x3F#6 (by decide) (by simp only [BitVec.and_zero]; decide)
theorem Sys2Proof.Laws.Row.cmpSueqS (fd : Reg) (fs : Reg) (ft : Reg) : Sys2Proof.Laws.Row.Statement (.cmpSueqS fd fs ft) :=
  packR_row (mask := 0xFFE0003F#32) (bits := 0x4680000B#32) 0x3F#6 0x1F#5 0x0#5 0x0#5 0x0#5 0x3F#6 (by decide) (by simp only [BitVec.and_zero]; decide)
theorem Sys2Proof.Laws.Row.cmpSueqD (fd : Reg) (fs : Reg) (ft : Reg) : Sys2Proof.Laws.Row.Statement (.cmpSueqD fd fs ft) :=
  packR_row (mask := 0xFFE0003F#32) (bits := 0x46A0000B#32) 0x3F#6 0x1F#5 0x0#5 0x0#5 0x0#5 0x3F#6 (by decide) (by simp only [BitVec.and_zero]; decide)
theorem Sys2Proof.Laws.Row.cmpSltS (fd : Reg) (fs : Reg) (ft : Reg) : Sys2Proof.Laws.Row.Statement (.cmpSltS fd fs ft) :=
  packR_row (mask := 0xFFE0003F#32) (bits := 0x4680000C#32) 0x3F#6 0x1F#5 0x0#5 0x0#5 0x0#5 0x3F#6 (by decide) (by simp only [BitVec.and_zero]; decide)
theorem Sys2Proof.Laws.Row.cmpSltD (fd : Reg) (fs : Reg) (ft : Reg) : Sys2Proof.Laws.Row.Statement (.cmpSltD fd fs ft) :=
  packR_row (mask := 0xFFE0003F#32) (bits := 0x46A0000C#32) 0x3F#6 0x1F#5 0x0#5 0x0#5 0x0#5 0x3F#6 (by decide) (by simp only [BitVec.and_zero]; decide)
theorem Sys2Proof.Laws.Row.cmpSultS (fd : Reg) (fs : Reg) (ft : Reg) : Sys2Proof.Laws.Row.Statement (.cmpSultS fd fs ft) :=
  packR_row (mask := 0xFFE0003F#32) (bits := 0x4680000D#32) 0x3F#6 0x1F#5 0x0#5 0x0#5 0x0#5 0x3F#6 (by decide) (by simp only [BitVec.and_zero]; decide)
theorem Sys2Proof.Laws.Row.cmpSultD (fd : Reg) (fs : Reg) (ft : Reg) : Sys2Proof.Laws.Row.Statement (.cmpSultD fd fs ft) :=
  packR_row (mask := 0xFFE0003F#32) (bits := 0x46A0000D#32) 0x3F#6 0x1F#5 0x0#5 0x0#5 0x0#5 0x3F#6 (by decide) (by simp only [BitVec.and_zero]; decide)
theorem Sys2Proof.Laws.Row.cmpSleS (fd : Reg) (fs : Reg) (ft : Reg) : Sys2Proof.Laws.Row.Statement (.cmpSleS fd fs ft) :=
  packR_row (mask := 0xFFE0003F#32) (bits := 0x4680000E#32) 0x3F#6 0x1F#5 0x0#5 0x0#5 0x0#5 0x3F#6 (by decide) (by simp only [BitVec.and_zero]; decide)
theorem Sys2Proof.Laws.Row.cmpSleD (fd : Reg) (fs : Reg) (ft : Reg) : Sys2Proof.Laws.Row.Statement (.cmpSleD fd fs ft) :=
  packR_row (mask := 0xFFE0003F#32) (bits := 0x46A0000E#32) 0x3F#6 0x1F#5 0x0#5 0x0#5 0x0#5 0x3F#6 (by decide) (by simp only [BitVec.and_zero]; decide)
theorem Sys2Proof.Laws.Row.cmpSuleS (fd : Reg) (fs : Reg) (ft : Reg) : Sys2Proof.Laws.Row.Statement (.cmpSuleS fd fs ft) :=
  packR_row (mask := 0xFFE0003F#32) (bits := 0x4680000F#32) 0x3F#6 0x1F#5 0x0#5 0x0#5 0x0#5 0x3F#6 (by decide) (by simp only [BitVec.and_zero]; decide)
theorem Sys2Proof.Laws.Row.cmpSuleD (fd : Reg) (fs : Reg) (ft : Reg) : Sys2Proof.Laws.Row.Statement (.cmpSuleD fd fs ft) :=
  packR_row (mask := 0xFFE0003F#32) (bits := 0x46A0000F#32) 0x3F#6 0x1F#5 0x0#5 0x0#5 0x0#5 0x3F#6 (by decide) (by simp only [BitVec.and_zero]; decide)
theorem Sys2Proof.Laws.Row.cmpOrS (fd : Reg) (fs : Reg) (ft : Reg) : Sys2Proof.Laws.Row.Statement (.cmpOrS fd fs ft) :=
  packR_row (mask := 0xFFE0003F#32) (bits := 0x46800011#32) 0x3F#6 0x1F#5 0x0#5 0x0#5 0x0#5 0x3F#6 (by decide) (by simp only [BitVec.and_zero]; decide)
theorem Sys2Proof.Laws.Row.cmpOrD (fd : Reg) (fs : Reg) (ft : Reg) : Sys2Proof.Laws.Row.Statement (.cmpOrD fd fs ft) :=
  packR_row (mask := 0xFFE0003F#32) (bits := 0x46A00011#32) 0x3F#6 0x1F#5 0x0#5 0x0#5 0x0#5 0x3F#6 (by decide) (by simp only [BitVec.and_zero]; decide)
theorem Sys2Proof.Laws.Row.cmpUneS (fd : Reg) (fs : Reg) (ft : Reg) : Sys2Proof.Laws.Row.Statement (.cmpUneS fd fs ft) :=
  packR_row (mask := 0xFFE0003F#32) (bits := 0x46800012#32) 0x3F#6 0x1F#5 0x0#5 0x0#5 0x0#5 0x3F#6 (by decide) (by simp only [BitVec.and_zero]; decide)
theorem Sys2Proof.Laws.Row.cmpUneD (fd : Reg) (fs : Reg) (ft : Reg) : Sys2Proof.Laws.Row.Statement (.cmpUneD fd fs ft) :=
  packR_row (mask := 0xFFE0003F#32) (bits := 0x46A00012#32) 0x3F#6 0x1F#5 0x0#5 0x0#5 0x0#5 0x3F#6 (by decide) (by simp only [BitVec.and_zero]; decide)
theorem Sys2Proof.Laws.Row.cmpNeS (fd : Reg) (fs : Reg) (ft : Reg) : Sys2Proof.Laws.Row.Statement (.cmpNeS fd fs ft) :=
  packR_row (mask := 0xFFE0003F#32) (bits := 0x46800013#32) 0x3F#6 0x1F#5 0x0#5 0x0#5 0x0#5 0x3F#6 (by decide) (by simp only [BitVec.and_zero]; decide)
theorem Sys2Proof.Laws.Row.cmpNeD (fd : Reg) (fs : Reg) (ft : Reg) : Sys2Proof.Laws.Row.Statement (.cmpNeD fd fs ft) :=
  packR_row (mask := 0xFFE0003F#32) (bits := 0x46A00013#32) 0x3F#6 0x1F#5 0x0#5 0x0#5 0x0#5 0x3F#6 (by decide) (by simp only [BitVec.and_zero]; decide)
theorem Sys2Proof.Laws.Row.cmpSorS (fd : Reg) (fs : Reg) (ft : Reg) : Sys2Proof.Laws.Row.Statement (.cmpSorS fd fs ft) :=
  packR_row (mask := 0xFFE0003F#32) (bits := 0x46800019#32) 0x3F#6 0x1F#5 0x0#5 0x0#5 0x0#5 0x3F#6 (by decide) (by simp only [BitVec.and_zero]; decide)
theorem Sys2Proof.Laws.Row.cmpSorD (fd : Reg) (fs : Reg) (ft : Reg) : Sys2Proof.Laws.Row.Statement (.cmpSorD fd fs ft) :=
  packR_row (mask := 0xFFE0003F#32) (bits := 0x46A00019#32) 0x3F#6 0x1F#5 0x0#5 0x0#5 0x0#5 0x3F#6 (by decide) (by simp only [BitVec.and_zero]; decide)
theorem Sys2Proof.Laws.Row.cmpSuneS (fd : Reg) (fs : Reg) (ft : Reg) : Sys2Proof.Laws.Row.Statement (.cmpSuneS fd fs ft) :=
  packR_row (mask := 0xFFE0003F#32) (bits := 0x4680001A#32) 0x3F#6 0x1F#5 0x0#5 0x0#5 0x0#5 0x3F#6 (by decide) (by simp only [BitVec.and_zero]; decide)
theorem Sys2Proof.Laws.Row.cmpSuneD (fd : Reg) (fs : Reg) (ft : Reg) : Sys2Proof.Laws.Row.Statement (.cmpSuneD fd fs ft) :=
  packR_row (mask := 0xFFE0003F#32) (bits := 0x46A0001A#32) 0x3F#6 0x1F#5 0x0#5 0x0#5 0x0#5 0x3F#6 (by decide) (by simp only [BitVec.and_zero]; decide)
theorem Sys2Proof.Laws.Row.cmpSneS (fd : Reg) (fs : Reg) (ft : Reg) : Sys2Proof.Laws.Row.Statement (.cmpSneS fd fs ft) :=
  packR_row (mask := 0xFFE0003F#32) (bits := 0x4680001B#32) 0x3F#6 0x1F#5 0x0#5 0x0#5 0x0#5 0x3F#6 (by decide) (by simp only [BitVec.and_zero]; decide)
theorem Sys2Proof.Laws.Row.cmpSneD (fd : Reg) (fs : Reg) (ft : Reg) : Sys2Proof.Laws.Row.Statement (.cmpSneD fd fs ft) :=
  packR_row (mask := 0xFFE0003F#32) (bits := 0x46A0001B#32) 0x3F#6 0x1F#5 0x0#5 0x0#5 0x0#5 0x3F#6 (by decide) (by simp only [BitVec.and_zero]; decide)
theorem Sys2Proof.Laws.Row.cvtSD (fd : Reg) (fs : Reg) : Sys2Proof.Laws.Row.Statement (.cvtSD fd fs) :=
  packR_row (mask := 0xFFE0003F#32) (bits := 0x46200020#32) 0x3F#6 0x1F#5 0x0#5 0x0#5 0x0#5 0x3F#6 (by decide) (by simp only [BitVec.and_zero]; decide)
theorem Sys2Proof.Laws.Row.cvtSW (fd : Reg) (fs : Reg) : Sys2Proof.Laws.Row.Statement (.cvtSW fd fs) :=
  packR_row (mask := 0xFFE0003F#32) (bits := 0x46800020#32) 0x3F#6 0x1F#5 0x0#5 0x0#5 0x0#5 0x3F#6 (by decide) (by simp only [BitVec.and_zero]; decide)
theorem Sys2Proof.Laws.Row.cvtSL (fd : Reg) (fs : Reg) : Sys2Proof.Laws.Row.Statement (.cvtSL fd fs) :=
  packR_row (mask := 0xFFE0003F#32) (bits := 0x46A00020#32) 0x3F#6 0x1F#5 0x0#5 0x0#5 0x0#5 0x3F#6 (by decide) (by simp only [BitVec.and_zero]; decide)
theorem Sys2Proof.Laws.Row.cvtDS (fd : Reg) (fs : Reg) : Sys2Proof.Laws.Row.Statement (.cvtDS fd fs) :=
  packR_row (mask := 0xFFE0003F#32) (bits := 0x46000021#32) 0x3F#6 0x1F#5 0x0#5 0x0#5 0x0#5 0x3F#6 (by decide) (by simp only [BitVec.and_zero]; decide)
theorem Sys2Proof.Laws.Row.cvtDW (fd : Reg) (fs : Reg) : Sys2Proof.Laws.Row.Statement (.cvtDW fd fs) :=
  packR_row (mask := 0xFFE0003F#32) (bits := 0x46800021#32) 0x3F#6 0x1F#5 0x0#5 0x0#5 0x0#5 0x3F#6 (by decide) (by simp only [BitVec.and_zero]; decide)
theorem Sys2Proof.Laws.Row.cvtDL (fd : Reg) (fs : Reg) : Sys2Proof.Laws.Row.Statement (.cvtDL fd fs) :=
  packR_row (mask := 0xFFE0003F#32) (bits := 0x46A00021#32) 0x3F#6 0x1F#5 0x0#5 0x0#5 0x0#5 0x3F#6 (by decide) (by simp only [BitVec.and_zero]; decide)
theorem Sys2Proof.Laws.Row.cvtWS (fd : Reg) (fs : Reg) : Sys2Proof.Laws.Row.Statement (.cvtWS fd fs) :=
  packR_row (mask := 0xFFE0003F#32) (bits := 0x46000024#32) 0x3F#6 0x1F#5 0x0#5 0x0#5 0x0#5 0x3F#6 (by decide) (by simp only [BitVec.and_zero]; decide)
theorem Sys2Proof.Laws.Row.cvtWD (fd : Reg) (fs : Reg) : Sys2Proof.Laws.Row.Statement (.cvtWD fd fs) :=
  packR_row (mask := 0xFFE0003F#32) (bits := 0x46200024#32) 0x3F#6 0x1F#5 0x0#5 0x0#5 0x0#5 0x3F#6 (by decide) (by simp only [BitVec.and_zero]; decide)
theorem Sys2Proof.Laws.Row.cvtLS (fd : Reg) (fs : Reg) : Sys2Proof.Laws.Row.Statement (.cvtLS fd fs) :=
  packR_row (mask := 0xFFE0003F#32) (bits := 0x46000025#32) 0x3F#6 0x1F#5 0x0#5 0x0#5 0x0#5 0x3F#6 (by decide) (by simp only [BitVec.and_zero]; decide)
theorem Sys2Proof.Laws.Row.cvtLD (fd : Reg) (fs : Reg) : Sys2Proof.Laws.Row.Statement (.cvtLD fd fs) :=
  packR_row (mask := 0xFFE0003F#32) (bits := 0x46200025#32) 0x3F#6 0x1F#5 0x0#5 0x0#5 0x0#5 0x3F#6 (by decide) (by simp only [BitVec.and_zero]; decide)
theorem Sys2Proof.Laws.Row.roundWS (fd : Reg) (fs : Reg) : Sys2Proof.Laws.Row.Statement (.roundWS fd fs) :=
  packR_row (mask := 0xFFE0003F#32) (bits := 0x4600000C#32) 0x3F#6 0x1F#5 0x0#5 0x0#5 0x0#5 0x3F#6 (by decide) (by simp only [BitVec.and_zero]; decide)
theorem Sys2Proof.Laws.Row.roundWD (fd : Reg) (fs : Reg) : Sys2Proof.Laws.Row.Statement (.roundWD fd fs) :=
  packR_row (mask := 0xFFE0003F#32) (bits := 0x4620000C#32) 0x3F#6 0x1F#5 0x0#5 0x0#5 0x0#5 0x3F#6 (by decide) (by simp only [BitVec.and_zero]; decide)
theorem Sys2Proof.Laws.Row.roundLS (fd : Reg) (fs : Reg) : Sys2Proof.Laws.Row.Statement (.roundLS fd fs) :=
  packR_row (mask := 0xFFE0003F#32) (bits := 0x46000008#32) 0x3F#6 0x1F#5 0x0#5 0x0#5 0x0#5 0x3F#6 (by decide) (by simp only [BitVec.and_zero]; decide)
theorem Sys2Proof.Laws.Row.roundLD (fd : Reg) (fs : Reg) : Sys2Proof.Laws.Row.Statement (.roundLD fd fs) :=
  packR_row (mask := 0xFFE0003F#32) (bits := 0x46200008#32) 0x3F#6 0x1F#5 0x0#5 0x0#5 0x0#5 0x3F#6 (by decide) (by simp only [BitVec.and_zero]; decide)
theorem Sys2Proof.Laws.Row.truncWS (fd : Reg) (fs : Reg) : Sys2Proof.Laws.Row.Statement (.truncWS fd fs) :=
  packR_row (mask := 0xFFE0003F#32) (bits := 0x4600000D#32) 0x3F#6 0x1F#5 0x0#5 0x0#5 0x0#5 0x3F#6 (by decide) (by simp only [BitVec.and_zero]; decide)
theorem Sys2Proof.Laws.Row.truncWD (fd : Reg) (fs : Reg) : Sys2Proof.Laws.Row.Statement (.truncWD fd fs) :=
  packR_row (mask := 0xFFE0003F#32) (bits := 0x4620000D#32) 0x3F#6 0x1F#5 0x0#5 0x0#5 0x0#5 0x3F#6 (by decide) (by simp only [BitVec.and_zero]; decide)
theorem Sys2Proof.Laws.Row.truncLS (fd : Reg) (fs : Reg) : Sys2Proof.Laws.Row.Statement (.truncLS fd fs) :=
  packR_row (mask := 0xFFE0003F#32) (bits := 0x46000009#32) 0x3F#6 0x1F#5 0x0#5 0x0#5 0x0#5 0x3F#6 (by decide) (by simp only [BitVec.and_zero]; decide)
theorem Sys2Proof.Laws.Row.truncLD (fd : Reg) (fs : Reg) : Sys2Proof.Laws.Row.Statement (.truncLD fd fs) :=
  packR_row (mask := 0xFFE0003F#32) (bits := 0x46200009#32) 0x3F#6 0x1F#5 0x0#5 0x0#5 0x0#5 0x3F#6 (by decide) (by simp only [BitVec.and_zero]; decide)
theorem Sys2Proof.Laws.Row.ceilWS (fd : Reg) (fs : Reg) : Sys2Proof.Laws.Row.Statement (.ceilWS fd fs) :=
  packR_row (mask := 0xFFE0003F#32) (bits := 0x4600000E#32) 0x3F#6 0x1F#5 0x0#5 0x0#5 0x0#5 0x3F#6 (by decide) (by simp only [BitVec.and_zero]; decide)
theorem Sys2Proof.Laws.Row.ceilWD (fd : Reg) (fs : Reg) : Sys2Proof.Laws.Row.Statement (.ceilWD fd fs) :=
  packR_row (mask := 0xFFE0003F#32) (bits := 0x4620000E#32) 0x3F#6 0x1F#5 0x0#5 0x0#5 0x0#5 0x3F#6 (by decide) (by simp only [BitVec.and_zero]; decide)
theorem Sys2Proof.Laws.Row.ceilLS (fd : Reg) (fs : Reg) : Sys2Proof.Laws.Row.Statement (.ceilLS fd fs) :=
  packR_row (mask := 0xFFE0003F#32) (bits := 0x4600000A#32) 0x3F#6 0x1F#5 0x0#5 0x0#5 0x0#5 0x3F#6 (by decide) (by simp only [BitVec.and_zero]; decide)
theorem Sys2Proof.Laws.Row.ceilLD (fd : Reg) (fs : Reg) : Sys2Proof.Laws.Row.Statement (.ceilLD fd fs) :=
  packR_row (mask := 0xFFE0003F#32) (bits := 0x4620000A#32) 0x3F#6 0x1F#5 0x0#5 0x0#5 0x0#5 0x3F#6 (by decide) (by simp only [BitVec.and_zero]; decide)
theorem Sys2Proof.Laws.Row.floorWS (fd : Reg) (fs : Reg) : Sys2Proof.Laws.Row.Statement (.floorWS fd fs) :=
  packR_row (mask := 0xFFE0003F#32) (bits := 0x4600000F#32) 0x3F#6 0x1F#5 0x0#5 0x0#5 0x0#5 0x3F#6 (by decide) (by simp only [BitVec.and_zero]; decide)
theorem Sys2Proof.Laws.Row.floorWD (fd : Reg) (fs : Reg) : Sys2Proof.Laws.Row.Statement (.floorWD fd fs) :=
  packR_row (mask := 0xFFE0003F#32) (bits := 0x4620000F#32) 0x3F#6 0x1F#5 0x0#5 0x0#5 0x0#5 0x3F#6 (by decide) (by simp only [BitVec.and_zero]; decide)
theorem Sys2Proof.Laws.Row.floorLS (fd : Reg) (fs : Reg) : Sys2Proof.Laws.Row.Statement (.floorLS fd fs) :=
  packR_row (mask := 0xFFE0003F#32) (bits := 0x4600000B#32) 0x3F#6 0x1F#5 0x0#5 0x0#5 0x0#5 0x3F#6 (by decide) (by simp only [BitVec.and_zero]; decide)
theorem Sys2Proof.Laws.Row.floorLD (fd : Reg) (fs : Reg) : Sys2Proof.Laws.Row.Statement (.floorLD fd fs) :=
  packR_row (mask := 0xFFE0003F#32) (bits := 0x4620000B#32) 0x3F#6 0x1F#5 0x0#5 0x0#5 0x0#5 0x3F#6 (by decide) (by simp only [BitVec.and_zero]; decide)
theorem Sys2Proof.Laws.Row.bc1eqz (ft : Reg) (imm : Half) : Sys2Proof.Laws.Row.Statement (.bc1eqz ft imm) :=
  packI_row (mask := 0xFFE00000#32) (bits := 0x45200000#32) 0x3F#6 0x1F#5 0x0#5 0x0#16 (by decide) (by simp only [BitVec.and_zero]; decide)
theorem Sys2Proof.Laws.Row.bc1nez (ft : Reg) (imm : Half) : Sys2Proof.Laws.Row.Statement (.bc1nez ft imm) :=
  packI_row (mask := 0xFFE00000#32) (bits := 0x45A00000#32) 0x3F#6 0x1F#5 0x0#5 0x0#16 (by decide) (by simp only [BitVec.and_zero]; decide)
theorem Sys2Proof.Laws.Row.tge (rs : Reg) (rt : Reg) (code10 : BitVec 10) : Sys2Proof.Laws.Row.Statement (.tge rs rt code10) :=
  packCode10_row (mask := 0xFC00003F#32) (bits := 0x00000030#32) 0x0#5 0x0#5 0x0#10 0x3F#6 (by decide) (by simp only [BitVec.and_zero]; decide)
theorem Sys2Proof.Laws.Row.tgeu (rs : Reg) (rt : Reg) (code10 : BitVec 10) : Sys2Proof.Laws.Row.Statement (.tgeu rs rt code10) :=
  packCode10_row (mask := 0xFC00003F#32) (bits := 0x00000031#32) 0x0#5 0x0#5 0x0#10 0x3F#6 (by decide) (by simp only [BitVec.and_zero]; decide)
theorem Sys2Proof.Laws.Row.tlt (rs : Reg) (rt : Reg) (code10 : BitVec 10) : Sys2Proof.Laws.Row.Statement (.tlt rs rt code10) :=
  packCode10_row (mask := 0xFC00003F#32) (bits := 0x00000032#32) 0x0#5 0x0#5 0x0#10 0x3F#6 (by decide) (by simp only [BitVec.and_zero]; decide)
theorem Sys2Proof.Laws.Row.tltu (rs : Reg) (rt : Reg) (code10 : BitVec 10) : Sys2Proof.Laws.Row.Statement (.tltu rs rt code10) :=
  packCode10_row (mask := 0xFC00003F#32) (bits := 0x00000033#32) 0x0#5 0x0#5 0x0#10 0x3F#6 (by decide) (by simp only [BitVec.and_zero]; decide)
theorem Sys2Proof.Laws.Row.teq (rs : Reg) (rt : Reg) (code10 : BitVec 10) : Sys2Proof.Laws.Row.Statement (.teq rs rt code10) :=
  packCode10_row (mask := 0xFC00003F#32) (bits := 0x00000034#32) 0x0#5 0x0#5 0x0#10 0x3F#6 (by decide) (by simp only [BitVec.and_zero]; decide)
theorem Sys2Proof.Laws.Row.tne (rs : Reg) (rt : Reg) (code10 : BitVec 10) : Sys2Proof.Laws.Row.Statement (.tne rs rt code10) :=
  packCode10_row (mask := 0xFC00003F#32) (bits := 0x00000036#32) 0x0#5 0x0#5 0x0#10 0x3F#6 (by decide) (by simp only [BitVec.and_zero]; decide)
theorem Sys2Proof.Laws.Row.brk (code20 : BitVec 20) : Sys2Proof.Laws.Row.Statement (.brk code20) :=
  packCode20_row (mask := 0xFC00003F#32) (bits := 0x0000000D#32) 0x0#20 0x3F#6 (by decide) (by simp only [BitVec.and_zero]; decide)
theorem Sys2Proof.Laws.Row.syscall (code20 : BitVec 20) : Sys2Proof.Laws.Row.Statement (.syscall code20) :=
  packCode20_row (mask := 0xFC00003F#32) (bits := 0x0000000C#32) 0x0#20 0x3F#6 (by decide) (by simp only [BitVec.and_zero]; decide)
theorem Sys2Proof.Laws.Row.sdbbp (code20 : BitVec 20) : Sys2Proof.Laws.Row.Statement (.sdbbp code20) :=
  packCode20_row (mask := 0xFC00003F#32) (bits := 0x0000000E#32) 0x0#20 0x3F#6 (by decide) (by simp only [BitVec.and_zero]; decide)
theorem Sys2Proof.Laws.Row.sigrie (rs : Reg) (imm : Half) : Sys2Proof.Laws.Row.Statement (.sigrie rs imm) :=
  packI_row (mask := 0xFC1F0000#32) (bits := 0x04170000#32) 0x3F#6 0x0#5 0x1F#5 0x0#16 (by decide) (by simp only [BitVec.and_zero]; decide)
theorem Sys2Proof.Laws.Row.sync (stype : Reg) : Sys2Proof.Laws.Row.Statement (.sync stype) :=
  packR_row (mask := 0xFC00003F#32) (bits := 0x0000000F#32) 0x3F#6 0x0#5 0x0#5 0x0#5 0x0#5 0x3F#6 (by decide) (by simp only [BitVec.and_zero]; decide)
theorem Sys2Proof.Laws.Row.synci (rs : Reg) (imm : Half) : Sys2Proof.Laws.Row.Statement (.synci rs imm) :=
  packI_row (mask := 0xFC1F0000#32) (bits := 0x041F0000#32) 0x3F#6 0x0#5 0x1F#5 0x0#16 (by decide) (by simp only [BitVec.and_zero]; decide)
theorem Sys2Proof.Laws.Row.pref (hint : Reg) (base : Reg) (off9 : BitVec 9) : Sys2Proof.Laws.Row.Statement (.pref hint base off9) :=
  packMem9_row (mask := 0xFC00007F#32) (bits := 0x7C000035#32) 0x0#5 0x0#5 0x0#9 0x7F#7 (by decide) (by simp only [BitVec.and_zero]; decide)
theorem Sys2Proof.Laws.Row.prefe (hint : Reg) (base : Reg) (off9 : BitVec 9) : Sys2Proof.Laws.Row.Statement (.prefe hint base off9) :=
  packMem9_row (mask := 0xFC00007F#32) (bits := 0x7C000023#32) 0x0#5 0x0#5 0x0#9 0x7F#7 (by decide) (by simp only [BitVec.and_zero]; decide)
theorem Sys2Proof.Laws.Row.cache (hint : Reg) (base : Reg) (off9 : BitVec 9) : Sys2Proof.Laws.Row.Statement (.cache hint base off9) :=
  packMem9_row (mask := 0xFC00007F#32) (bits := 0x7C000025#32) 0x0#5 0x0#5 0x0#9 0x7F#7 (by decide) (by simp only [BitVec.and_zero]; decide)
theorem Sys2Proof.Laws.Row.cachee (hint : Reg) (base : Reg) (off9 : BitVec 9) : Sys2Proof.Laws.Row.Statement (.cachee hint base off9) :=
  packMem9_row (mask := 0xFC00007F#32) (bits := 0x7C00001B#32) 0x0#5 0x0#5 0x0#9 0x7F#7 (by decide) (by simp only [BitVec.and_zero]; decide)
theorem Sys2Proof.Laws.Row.ginvi (rs : Reg) (gtype : BitVec 2) : Sys2Proof.Laws.Row.Statement (.ginvi rs gtype) :=
  packR_row (mask := 0xFC0000FF#32) (bits := 0x7C00003D#32) 0x3F#6 0x0#5 0x0#5 0x0#5 0x3#5 0x3F#6 (by decide) (by simp only [BitVec.and_zero]; revert gtype; decide)
theorem Sys2Proof.Laws.Row.ginvt (rs : Reg) (gtype : BitVec 2) : Sys2Proof.Laws.Row.Statement (.ginvt rs gtype) :=
  packR_row (mask := 0xFC0000FF#32) (bits := 0x7C0000BD#32) 0x3F#6 0x0#5 0x0#5 0x0#5 0x3#5 0x3F#6 (by decide) (by simp only [BitVec.and_zero]; revert gtype; decide)
theorem Sys2Proof.Laws.Row.rdhwr (rt : Reg) (rd : Reg) : Sys2Proof.Laws.Row.Statement (.rdhwr rt rd) :=
  packR_row (mask := 0xFC00003F#32) (bits := 0x7C00003B#32) 0x3F#6 0x0#5 0x0#5 0x0#5 0x0#5 0x3F#6 (by decide) (by simp only [BitVec.and_zero]; decide)
theorem Sys2Proof.Laws.Row.eret : Sys2Proof.Laws.Row.Statement (.eret) :=
  packR_row (mask := 0xFE00007F#32) (bits := 0x42000018#32) 0x3F#6 0x10#5 0x0#5 0x0#5 0x1#5 0x3F#6 (by decide) (by decide)
theorem Sys2Proof.Laws.Row.eretnc : Sys2Proof.Laws.Row.Statement (.eretnc) :=
  packR_row (mask := 0xFE00007F#32) (bits := 0x42000058#32) 0x3F#6 0x10#5 0x0#5 0x0#5 0x1#5 0x3F#6 (by decide) (by decide)
theorem Sys2Proof.Laws.Row.deret : Sys2Proof.Laws.Row.Statement (.deret) :=
  packR_row (mask := 0xFE00003F#32) (bits := 0x4200001F#32) 0x3F#6 0x10#5 0x0#5 0x0#5 0x0#5 0x3F#6 (by decide) (by decide)
theorem Sys2Proof.Laws.Row.di (rt : Reg) : Sys2Proof.Laws.Row.Statement (.di rt) :=
  packI_row (mask := 0xFFE0FFFF#32) (bits := 0x41606000#32) 0x3F#6 0x1F#5 0x0#5 0xFFFF#16 (by decide) (by simp only [BitVec.and_zero]; decide)
theorem Sys2Proof.Laws.Row.ei (rt : Reg) : Sys2Proof.Laws.Row.Statement (.ei rt) :=
  packI_row (mask := 0xFFE0FFFF#32) (bits := 0x41606020#32) 0x3F#6 0x1F#5 0x0#5 0xFFFF#16 (by decide) (by simp only [BitVec.and_zero]; decide)
theorem Sys2Proof.Laws.Row.dvp (rt : Reg) : Sys2Proof.Laws.Row.Statement (.dvp rt) :=
  packI_row (mask := 0xFFE0FFFF#32) (bits := 0x41600024#32) 0x3F#6 0x1F#5 0x0#5 0xFFFF#16 (by decide) (by simp only [BitVec.and_zero]; decide)
theorem Sys2Proof.Laws.Row.evp (rt : Reg) : Sys2Proof.Laws.Row.Statement (.evp rt) :=
  packI_row (mask := 0xFFE0FFFF#32) (bits := 0x41600004#32) 0x3F#6 0x1F#5 0x0#5 0xFFFF#16 (by decide) (by simp only [BitVec.and_zero]; decide)
theorem Sys2Proof.Laws.Row.wait : Sys2Proof.Laws.Row.Statement (.wait) :=
  packR_row (mask := 0xFE00003F#32) (bits := 0x42000020#32) 0x3F#6 0x10#5 0x0#5 0x0#5 0x0#5 0x3F#6 (by decide) (by decide)
theorem Sys2Proof.Laws.Row.tlbr : Sys2Proof.Laws.Row.Statement (.tlbr) :=
  packR_row (mask := 0xFE00003F#32) (bits := 0x42000001#32) 0x3F#6 0x10#5 0x0#5 0x0#5 0x0#5 0x3F#6 (by decide) (by decide)
theorem Sys2Proof.Laws.Row.tlbwi : Sys2Proof.Laws.Row.Statement (.tlbwi) :=
  packR_row (mask := 0xFE00003F#32) (bits := 0x42000002#32) 0x3F#6 0x10#5 0x0#5 0x0#5 0x0#5 0x3F#6 (by decide) (by decide)
theorem Sys2Proof.Laws.Row.tlbinv : Sys2Proof.Laws.Row.Statement (.tlbinv) :=
  packR_row (mask := 0xFE00003F#32) (bits := 0x42000003#32) 0x3F#6 0x10#5 0x0#5 0x0#5 0x0#5 0x3F#6 (by decide) (by decide)
theorem Sys2Proof.Laws.Row.tlbinvf : Sys2Proof.Laws.Row.Statement (.tlbinvf) :=
  packR_row (mask := 0xFE00003F#32) (bits := 0x42000004#32) 0x3F#6 0x10#5 0x0#5 0x0#5 0x0#5 0x3F#6 (by decide) (by decide)
theorem Sys2Proof.Laws.Row.tlbwr : Sys2Proof.Laws.Row.Statement (.tlbwr) :=
  packR_row (mask := 0xFE00003F#32) (bits := 0x42000006#32) 0x3F#6 0x10#5 0x0#5 0x0#5 0x0#5 0x3F#6 (by decide) (by decide)
theorem Sys2Proof.Laws.Row.tlbp : Sys2Proof.Laws.Row.Statement (.tlbp) :=
  packR_row (mask := 0xFE00003F#32) (bits := 0x42000008#32) 0x3F#6 0x10#5 0x0#5 0x0#5 0x0#5 0x3F#6 (by decide) (by decide)
theorem Sys2Proof.Laws.Row.lb (rt : Reg) (base : Reg) (off : Half) : Sys2Proof.Laws.Row.Statement (.lb rt base off) :=
  packI_row (mask := 0xFC000000#32) (bits := 0x80000000#32) 0x3F#6 0x0#5 0x0#5 0x0#16 (by decide) (by simp only [BitVec.and_zero]; decide)
theorem Sys2Proof.Laws.Row.lbu (rt : Reg) (base : Reg) (off : Half) : Sys2Proof.Laws.Row.Statement (.lbu rt base off) :=
  packI_row (mask := 0xFC000000#32) (bits := 0x90000000#32) 0x3F#6 0x0#5 0x0#5 0x0#16 (by decide) (by simp only [BitVec.and_zero]; decide)
theorem Sys2Proof.Laws.Row.lh (rt : Reg) (base : Reg) (off : Half) : Sys2Proof.Laws.Row.Statement (.lh rt base off) :=
  packI_row (mask := 0xFC000000#32) (bits := 0x84000000#32) 0x3F#6 0x0#5 0x0#5 0x0#16 (by decide) (by simp only [BitVec.and_zero]; decide)
theorem Sys2Proof.Laws.Row.lhu (rt : Reg) (base : Reg) (off : Half) : Sys2Proof.Laws.Row.Statement (.lhu rt base off) :=
  packI_row (mask := 0xFC000000#32) (bits := 0x94000000#32) 0x3F#6 0x0#5 0x0#5 0x0#16 (by decide) (by simp only [BitVec.and_zero]; decide)
theorem Sys2Proof.Laws.Row.lw (rt : Reg) (base : Reg) (off : Half) : Sys2Proof.Laws.Row.Statement (.lw rt base off) :=
  packI_row (mask := 0xFC000000#32) (bits := 0x8C000000#32) 0x3F#6 0x0#5 0x0#5 0x0#16 (by decide) (by simp only [BitVec.and_zero]; decide)
theorem Sys2Proof.Laws.Row.sb (rt : Reg) (base : Reg) (off : Half) : Sys2Proof.Laws.Row.Statement (.sb rt base off) :=
  packI_row (mask := 0xFC000000#32) (bits := 0xA0000000#32) 0x3F#6 0x0#5 0x0#5 0x0#16 (by decide) (by simp only [BitVec.and_zero]; decide)
theorem Sys2Proof.Laws.Row.sh (rt : Reg) (base : Reg) (off : Half) : Sys2Proof.Laws.Row.Statement (.sh rt base off) :=
  packI_row (mask := 0xFC000000#32) (bits := 0xA4000000#32) 0x3F#6 0x0#5 0x0#5 0x0#16 (by decide) (by simp only [BitVec.and_zero]; decide)
theorem Sys2Proof.Laws.Row.sw (rt : Reg) (base : Reg) (off : Half) : Sys2Proof.Laws.Row.Statement (.sw rt base off) :=
  packI_row (mask := 0xFC000000#32) (bits := 0xAC000000#32) 0x3F#6 0x0#5 0x0#5 0x0#16 (by decide) (by simp only [BitVec.and_zero]; decide)
theorem Sys2Proof.Laws.Row.lwpc (rs : Reg) (imm19 : BitVec 19) : Sys2Proof.Laws.Row.Statement (.lwpc rs imm19) :=
  packPc19_row (mask := 0xFC180000#32) (bits := 0xEC080000#32) 0x0#5 0x3#2 0x0#19 (by decide) (by simp only [BitVec.and_zero]; decide)
theorem Sys2Proof.Laws.Row.lbe (rt : Reg) (base : Reg) (off9 : BitVec 9) : Sys2Proof.Laws.Row.Statement (.lbe rt base off9) :=
  packMem9_row (mask := 0xFC00007F#32) (bits := 0x7C00002C#32) 0x0#5 0x0#5 0x0#9 0x7F#7 (by decide) (by simp only [BitVec.and_zero]; decide)
theorem Sys2Proof.Laws.Row.lbue (rt : Reg) (base : Reg) (off9 : BitVec 9) : Sys2Proof.Laws.Row.Statement (.lbue rt base off9) :=
  packMem9_row (mask := 0xFC00007F#32) (bits := 0x7C000028#32) 0x0#5 0x0#5 0x0#9 0x7F#7 (by decide) (by simp only [BitVec.and_zero]; decide)
theorem Sys2Proof.Laws.Row.lhe (rt : Reg) (base : Reg) (off9 : BitVec 9) : Sys2Proof.Laws.Row.Statement (.lhe rt base off9) :=
  packMem9_row (mask := 0xFC00007F#32) (bits := 0x7C00002D#32) 0x0#5 0x0#5 0x0#9 0x7F#7 (by decide) (by simp only [BitVec.and_zero]; decide)
theorem Sys2Proof.Laws.Row.lhue (rt : Reg) (base : Reg) (off9 : BitVec 9) : Sys2Proof.Laws.Row.Statement (.lhue rt base off9) :=
  packMem9_row (mask := 0xFC00007F#32) (bits := 0x7C000029#32) 0x0#5 0x0#5 0x0#9 0x7F#7 (by decide) (by simp only [BitVec.and_zero]; decide)
theorem Sys2Proof.Laws.Row.lwe (rt : Reg) (base : Reg) (off9 : BitVec 9) : Sys2Proof.Laws.Row.Statement (.lwe rt base off9) :=
  packMem9_row (mask := 0xFC00007F#32) (bits := 0x7C00002F#32) 0x0#5 0x0#5 0x0#9 0x7F#7 (by decide) (by simp only [BitVec.and_zero]; decide)
theorem Sys2Proof.Laws.Row.sbe (rt : Reg) (base : Reg) (off9 : BitVec 9) : Sys2Proof.Laws.Row.Statement (.sbe rt base off9) :=
  packMem9_row (mask := 0xFC00007F#32) (bits := 0x7C00001C#32) 0x0#5 0x0#5 0x0#9 0x7F#7 (by decide) (by simp only [BitVec.and_zero]; decide)
theorem Sys2Proof.Laws.Row.she (rt : Reg) (base : Reg) (off9 : BitVec 9) : Sys2Proof.Laws.Row.Statement (.she rt base off9) :=
  packMem9_row (mask := 0xFC00007F#32) (bits := 0x7C00001D#32) 0x0#5 0x0#5 0x0#9 0x7F#7 (by decide) (by simp only [BitVec.and_zero]; decide)
theorem Sys2Proof.Laws.Row.swe (rt : Reg) (base : Reg) (off9 : BitVec 9) : Sys2Proof.Laws.Row.Statement (.swe rt base off9) :=
  packMem9_row (mask := 0xFC00007F#32) (bits := 0x7C00001F#32) 0x0#5 0x0#5 0x0#9 0x7F#7 (by decide) (by simp only [BitVec.and_zero]; decide)
theorem Sys2Proof.Laws.Row.ll (rt : Reg) (base : Reg) (off9 : BitVec 9) : Sys2Proof.Laws.Row.Statement (.ll rt base off9) :=
  packMem9_row (mask := 0xFC00007F#32) (bits := 0x7C000036#32) 0x0#5 0x0#5 0x0#9 0x7F#7 (by decide) (by simp only [BitVec.and_zero]; decide)
theorem Sys2Proof.Laws.Row.sc (rt : Reg) (base : Reg) (off9 : BitVec 9) : Sys2Proof.Laws.Row.Statement (.sc rt base off9) :=
  packMem9_row (mask := 0xFC00007F#32) (bits := 0x7C000026#32) 0x0#5 0x0#5 0x0#9 0x7F#7 (by decide) (by simp only [BitVec.and_zero]; decide)
theorem Sys2Proof.Laws.Row.llwp (rt : Reg) (rd : Reg) (base : Reg) : Sys2Proof.Laws.Row.Statement (.llwp rt rd base) :=
  packMem9_row (mask := 0xFC00007F#32) (bits := 0x7C000076#32) 0x0#5 0x0#5 0x0#9 0x7F#7 (by decide) (by simp only [BitVec.and_zero]; decide)
theorem Sys2Proof.Laws.Row.scwp (rt : Reg) (rd : Reg) (base : Reg) : Sys2Proof.Laws.Row.Statement (.scwp rt rd base) :=
  packMem9_row (mask := 0xFC00007F#32) (bits := 0x7C000066#32) 0x0#5 0x0#5 0x0#9 0x7F#7 (by decide) (by simp only [BitVec.and_zero]; decide)
theorem Sys2Proof.Laws.Row.lle (rt : Reg) (base : Reg) (off9 : BitVec 9) : Sys2Proof.Laws.Row.Statement (.lle rt base off9) :=
  packMem9_row (mask := 0xFC00007F#32) (bits := 0x7C00002E#32) 0x0#5 0x0#5 0x0#9 0x7F#7 (by decide) (by simp only [BitVec.and_zero]; decide)
theorem Sys2Proof.Laws.Row.sce (rt : Reg) (base : Reg) (off9 : BitVec 9) : Sys2Proof.Laws.Row.Statement (.sce rt base off9) :=
  packMem9_row (mask := 0xFC00007F#32) (bits := 0x7C00001E#32) 0x0#5 0x0#5 0x0#9 0x7F#7 (by decide) (by simp only [BitVec.and_zero]; decide)
theorem Sys2Proof.Laws.Row.llwpe (rt : Reg) (rd : Reg) (base : Reg) : Sys2Proof.Laws.Row.Statement (.llwpe rt rd base) :=
  packMem9_row (mask := 0xFC00007F#32) (bits := 0x7C00006E#32) 0x0#5 0x0#5 0x0#9 0x7F#7 (by decide) (by simp only [BitVec.and_zero]; decide)
theorem Sys2Proof.Laws.Row.scwpe (rt : Reg) (rd : Reg) (base : Reg) : Sys2Proof.Laws.Row.Statement (.scwpe rt rd base) :=
  packMem9_row (mask := 0xFC00007F#32) (bits := 0x7C00005E#32) 0x0#5 0x0#5 0x0#9 0x7F#7 (by decide) (by simp only [BitVec.and_zero]; decide)
theorem Sys2Proof.Laws.Row.lwc1 (ft : Reg) (base : Reg) (off : Half) : Sys2Proof.Laws.Row.Statement (.lwc1 ft base off) :=
  packI_row (mask := 0xFC000000#32) (bits := 0xC4000000#32) 0x3F#6 0x0#5 0x0#5 0x0#16 (by decide) (by simp only [BitVec.and_zero]; decide)
theorem Sys2Proof.Laws.Row.swc1 (ft : Reg) (base : Reg) (off : Half) : Sys2Proof.Laws.Row.Statement (.swc1 ft base off) :=
  packI_row (mask := 0xFC000000#32) (bits := 0xE4000000#32) 0x3F#6 0x0#5 0x0#5 0x0#16 (by decide) (by simp only [BitVec.and_zero]; decide)
theorem Sys2Proof.Laws.Row.ldc1 (ft : Reg) (base : Reg) (off : Half) : Sys2Proof.Laws.Row.Statement (.ldc1 ft base off) :=
  packI_row (mask := 0xFC000000#32) (bits := 0xD4000000#32) 0x3F#6 0x0#5 0x0#5 0x0#16 (by decide) (by simp only [BitVec.and_zero]; decide)
theorem Sys2Proof.Laws.Row.sdc1 (ft : Reg) (base : Reg) (off : Half) : Sys2Proof.Laws.Row.Statement (.sdc1 ft base off) :=
  packI_row (mask := 0xFC000000#32) (bits := 0xF4000000#32) 0x3F#6 0x0#5 0x0#5 0x0#16 (by decide) (by simp only [BitVec.and_zero]; decide)
theorem Sys2Proof.Laws.Row.mfc1 (rt : Reg) (fs : Reg) : Sys2Proof.Laws.Row.Statement (.mfc1 rt fs) :=
  packR_row (mask := 0xFFE00000#32) (bits := 0x44000000#32) 0x3F#6 0x1F#5 0x0#5 0x0#5 0x0#5 0x0#6 (by decide) (by simp only [BitVec.and_zero]; decide)
theorem Sys2Proof.Laws.Row.mtc1 (rt : Reg) (fs : Reg) : Sys2Proof.Laws.Row.Statement (.mtc1 rt fs) :=
  packR_row (mask := 0xFFE00000#32) (bits := 0x44800000#32) 0x3F#6 0x1F#5 0x0#5 0x0#5 0x0#5 0x0#6 (by decide) (by simp only [BitVec.and_zero]; decide)
theorem Sys2Proof.Laws.Row.mfhc1 (rt : Reg) (fs : Reg) : Sys2Proof.Laws.Row.Statement (.mfhc1 rt fs) :=
  packR_row (mask := 0xFFE00000#32) (bits := 0x44600000#32) 0x3F#6 0x1F#5 0x0#5 0x0#5 0x0#5 0x0#6 (by decide) (by simp only [BitVec.and_zero]; decide)
theorem Sys2Proof.Laws.Row.mthc1 (rt : Reg) (fs : Reg) : Sys2Proof.Laws.Row.Statement (.mthc1 rt fs) :=
  packR_row (mask := 0xFFE00000#32) (bits := 0x44E00000#32) 0x3F#6 0x1F#5 0x0#5 0x0#5 0x0#5 0x0#6 (by decide) (by simp only [BitVec.and_zero]; decide)
theorem Sys2Proof.Laws.Row.cfc1 (rt : Reg) (fs : Reg) : Sys2Proof.Laws.Row.Statement (.cfc1 rt fs) :=
  packR_row (mask := 0xFFE00000#32) (bits := 0x44400000#32) 0x3F#6 0x1F#5 0x0#5 0x0#5 0x0#5 0x0#6 (by decide) (by simp only [BitVec.and_zero]; decide)
theorem Sys2Proof.Laws.Row.ctc1 (rt : Reg) (fs : Reg) : Sys2Proof.Laws.Row.Statement (.ctc1 rt fs) :=
  packR_row (mask := 0xFFE00000#32) (bits := 0x44C00000#32) 0x3F#6 0x1F#5 0x0#5 0x0#5 0x0#5 0x0#6 (by decide) (by simp only [BitVec.and_zero]; decide)
theorem Sys2Proof.Laws.Row.mfc2 (rt : Reg) (rd : Reg) : Sys2Proof.Laws.Row.Statement (.mfc2 rt rd) :=
  packR_row (mask := 0xFFE00000#32) (bits := 0x48000000#32) 0x3F#6 0x1F#5 0x0#5 0x0#5 0x0#5 0x0#6 (by decide) (by simp only [BitVec.and_zero]; decide)
theorem Sys2Proof.Laws.Row.mtc2 (rt : Reg) (rd : Reg) : Sys2Proof.Laws.Row.Statement (.mtc2 rt rd) :=
  packR_row (mask := 0xFFE00000#32) (bits := 0x48800000#32) 0x3F#6 0x1F#5 0x0#5 0x0#5 0x0#5 0x0#6 (by decide) (by simp only [BitVec.and_zero]; decide)
theorem Sys2Proof.Laws.Row.mfhc2 (rt : Reg) (rd : Reg) : Sys2Proof.Laws.Row.Statement (.mfhc2 rt rd) :=
  packR_row (mask := 0xFFE00000#32) (bits := 0x48600000#32) 0x3F#6 0x1F#5 0x0#5 0x0#5 0x0#5 0x0#6 (by decide) (by simp only [BitVec.and_zero]; decide)
theorem Sys2Proof.Laws.Row.mthc2 (rt : Reg) (rd : Reg) : Sys2Proof.Laws.Row.Statement (.mthc2 rt rd) :=
  packR_row (mask := 0xFFE00000#32) (bits := 0x48E00000#32) 0x3F#6 0x1F#5 0x0#5 0x0#5 0x0#5 0x0#6 (by decide) (by simp only [BitVec.and_zero]; decide)
theorem Sys2Proof.Laws.Row.cfc2 (rt : Reg) (rd : Reg) : Sys2Proof.Laws.Row.Statement (.cfc2 rt rd) :=
  packR_row (mask := 0xFFE00000#32) (bits := 0x48400000#32) 0x3F#6 0x1F#5 0x0#5 0x0#5 0x0#5 0x0#6 (by decide) (by simp only [BitVec.and_zero]; decide)
theorem Sys2Proof.Laws.Row.ctc2 (rt : Reg) (rd : Reg) : Sys2Proof.Laws.Row.Statement (.ctc2 rt rd) :=
  packR_row (mask := 0xFFE00000#32) (bits := 0x48C00000#32) 0x3F#6 0x1F#5 0x0#5 0x0#5 0x0#5 0x0#6 (by decide) (by simp only [BitVec.and_zero]; decide)
theorem Sys2Proof.Laws.Row.lwc2 (rt : Reg) (base : Reg) (off11 : BitVec 11) : Sys2Proof.Laws.Row.Statement (.lwc2 rt base off11) :=
  packMem11_row (mask := 0xFFE00000#32) (bits := 0x49400000#32) 0x1F#5 0x0#5 0x0#5 0x0#11 (by decide) (by simp only [BitVec.and_zero]; decide)
theorem Sys2Proof.Laws.Row.swc2 (rt : Reg) (base : Reg) (off11 : BitVec 11) : Sys2Proof.Laws.Row.Statement (.swc2 rt base off11) :=
  packMem11_row (mask := 0xFFE00000#32) (bits := 0x49600000#32) 0x1F#5 0x0#5 0x0#5 0x0#11 (by decide) (by simp only [BitVec.and_zero]; decide)
theorem Sys2Proof.Laws.Row.ldc2 (rt : Reg) (base : Reg) (off11 : BitVec 11) : Sys2Proof.Laws.Row.Statement (.ldc2 rt base off11) :=
  packMem11_row (mask := 0xFFE00000#32) (bits := 0x49C00000#32) 0x1F#5 0x0#5 0x0#5 0x0#11 (by decide) (by simp only [BitVec.and_zero]; decide)
theorem Sys2Proof.Laws.Row.sdc2 (rt : Reg) (base : Reg) (off11 : BitVec 11) : Sys2Proof.Laws.Row.Statement (.sdc2 rt base off11) :=
  packMem11_row (mask := 0xFFE00000#32) (bits := 0x49E00000#32) 0x1F#5 0x0#5 0x0#5 0x0#11 (by decide) (by simp only [BitVec.and_zero]; decide)
theorem Sys2Proof.Laws.Row.bc2eqz (ct : Reg) (imm : Half) : Sys2Proof.Laws.Row.Statement (.bc2eqz ct imm) :=
  packI_row (mask := 0xFFE00000#32) (bits := 0x49200000#32) 0x3F#6 0x1F#5 0x0#5 0x0#16 (by decide) (by simp only [BitVec.and_zero]; decide)
theorem Sys2Proof.Laws.Row.bc2nez (ct : Reg) (imm : Half) : Sys2Proof.Laws.Row.Statement (.bc2nez ct imm) :=
  packI_row (mask := 0xFFE00000#32) (bits := 0x49A00000#32) 0x3F#6 0x1F#5 0x0#5 0x0#16 (by decide) (by simp only [BitVec.and_zero]; decide)
theorem Sys2Proof.Laws.Row.rdpgpr (rd : Reg) (rt : Reg) : Sys2Proof.Laws.Row.Statement (.rdpgpr rd rt) :=
  packR_row (mask := 0xFFE00000#32) (bits := 0x41400000#32) 0x3F#6 0x1F#5 0x0#5 0x0#5 0x0#5 0x0#6 (by decide) (by simp only [BitVec.and_zero]; decide)
theorem Sys2Proof.Laws.Row.wrpgpr (rd : Reg) (rt : Reg) : Sys2Proof.Laws.Row.Statement (.wrpgpr rd rt) :=
  packR_row (mask := 0xFFE00000#32) (bits := 0x41C00000#32) 0x3F#6 0x1F#5 0x0#5 0x0#5 0x0#5 0x0#6 (by decide) (by simp only [BitVec.and_zero]; decide)
end

