-- ==== Sys2Proof/Tests/Slice0.lean ====
section
/-! SUPPORT. Tests on fixed values: well-formedness, the decoding of a word of every row of the opcode table, one step of every
instruction, and for every statement with hypotheses a state and operands that meet them. -/

namespace Sys2Proof.Tests

-- One after the other: a thread for each kernel evaluation needs more memory than the check allows.
set_option Elab.async false

open Sys2Proof.Machine

/-! ### Well-formedness: an ill-formed term for each register-field rule (30_encoding.md R76 to R85), and well-formed neighbours -/

theorem test_illFormed_terms_are_refused : ([.aui 3 0 5, .bltzal 0 1, .bgezal 0 1, .beqc 0 3 1, .beqc 3 3 1, .beqc 4 3 1, .bnec 0 3 1,
    .bnec 3 3 1, .bnec 4 3 1, .bltc 3 3 1, .bltc 0 3 1, .bltc 3 0 1, .bgec 3 3 1, .bgec 0 3 1, .bgec 3 0 1, .bltuc 3 3 1, .bltuc 0 3 1,
    .bltuc 3 0 1, .bgeuc 3 3 1, .bgeuc 0 3 1, .bgeuc 3 0 1, .blezc 0 1, .bgezc 0 1, .bgtzc 0 1, .bltzc 0 1, .beqzc 0 1, .bnezc 0 1,
    .bovc 2 3 1, .bovc 3 0 1, .bnvc 2 3 1, .blezalc 0 1, .bgezalc 0 1, .bgtzalc 0 1, .bltzalc 0 1, .beqzalc 0 1, .bnezalc 0 1, .jic 0 1,
    .jialc 0 1] : List Instr).all (fun i => !wellFormed i) = true := by decide +kernel

theorem test_wellFormed_terms_are_accepted : ([.aui 0 1 5, .bltzal 1 1, .bgezal 31 1, .beqc 2 3 1, .bnec 30 31 1, .bltc 3 2 1, .bgec 2 3 1,
    .bltuc 31 30 1, .bgeuc 1 31 1, .blezc 1 1, .beqzc 31 1, .bovc 3 3 1, .bovc 31 1 1, .bnvc 0 0 1, .bnvc 3 0 1, .jic 1 1, .jialc 31 1,
    .add 0 0 0] : List Instr).all wellFormed = true := by decide +kernel

/-! ### Decoding: a word of every row, written out from its encoding (30_encoding.md R70 to R87; the opcode table's examples) -/

/-- Each word decodes to the instruction beside it. -/
noncomputable def decodesTo (rows : List (Word × Instr)) : Bool := rows.all fun p => decode p.1 == some p.2

theorem test_decode_arithmetic_logic_1 : decodesTo [
    (0x012A4020, .add 8 9 10), (0x012A4021, .addu 8 9 10), (0x012A4022, .sub 8 9 10), (0x012A4023, .subu 8 9 10),
    (0x25280001, .addiu 8 9 1), (0x012A4024, .and 8 9 10), (0x012A4025, .or 8 9 10), (0x012A4026, .xor 8 9 10),
    (0x012A4027, .nor 8 9 10), (0x3128FFFF, .andi 8 9 65535), (0x35288000, .ori 8 9 32768), (0x3928FFFF, .xori 8 9 65535),
    (0x012A402A, .slt 8 9 10), (0x012A402B, .sltu 8 9 10), (0x2928FFFF, .slti 8 9 65535), (0x2D28FFFF, .sltiu 8 9 65535),
    (0x3C081234, .lui 8 4660), (0x3D28FFFF, .aui 8 9 65535), (0x012A4035, .seleqz 8 9 10), (0x012A4037, .selnez 8 9 10),
    (0x01204050, .clz 8 9), (0x01204051, .clo 8 9), (0x7C094420, .seb 8 9), (0x7C094620, .seh 8 9)] = true := by decide +kernel

theorem test_decode_arithmetic_logic_2 : decodesTo [
    (0x7C0940A0, .wsbh 8 9), (0x7C094020, .bitswap 8 9), (0x7D2A4260, .align 8 9 10 1), (0x7D283A00, .ext 8 9 7 8),
    (0x7D287A04, .ins 8 9 15 8), (0x012A4045, .lsa 8 9 10 1), (0xED000004, .addiupc 8 4), (0xED1E0001, .auipc 8 1),
    (0xED1F0001, .aluipc 8 1)] = true := by decide +kernel

theorem test_decode_shift_rotate : decodesTo [
    (0x00094100, .sll 8 9 4), (0x00094102, .srl 8 9 4), (0x00094103, .sra 8 9 4), (0x01494004, .sllv 8 9 10), (0x01494006, .srlv 8 9 10),
    (0x01494007, .srav 8 9 10), (0x00294202, .rotr 8 9 8), (0x01494046, .rotrv 8 9 10)] = true := by decide +kernel

theorem test_decode_multiply_divide : decodesTo [
    (0x012A0018, .mult 9 10), (0x012A0019, .multu 9 10), (0x012A001A, .div 9 10), (0x012A001B, .divu 9 10), (0x00004010, .mfhi 8),
    (0x00004012, .mflo 8), (0x01200011, .mthi 9), (0x01200013, .mtlo 9), (0x712A0000, .madd 9 10), (0x712A0001, .maddu 9 10),
    (0x712A0004, .msub 9 10), (0x712A0005, .msubu 9 10), (0x012A4098, .mul 8 9 10), (0x012A40D8, .muh 8 9 10),
    (0x012A4099, .mulu 8 9 10), (0x012A40D9, .muhu 8 9 10), (0x012A409A, .divR6 8 9 10), (0x012A40DA, .mod 8 9 10),
    (0x012A409B, .divuR6 8 9 10), (0x012A40DB, .modu 8 9 10)] = true := by decide +kernel

theorem test_decode_branch_jump_1 : decodesTo [
    (0x08000404, .j 1028), (0x0C000800, .jal 2048), (0x03E00008, .jr 31), (0x0120F809, .jalr 31 9), (0x11090003, .beq 8 9 3),
    (0x1509FFFE, .bne 8 9 65534), (0x19000003, .blez 8 3), (0x1D000003, .bgtz 8 3), (0x05000003, .bltz 8 3), (0x05010003, .bgez 8 3),
    (0x05100003, .bltzal 8 3), (0x04100000, .nal 0), (0x05110003, .bgezal 8 3), (0x04110002, .bal 2), (0xCBFFFFFF, .bc 67108863),
    (0xE8000003, .balc 3), (0x21090003, .beqc 8 9 3), (0x61090003, .bnec 8 9 3), (0x5D090003, .bltc 8 9 3), (0x59090003, .bgec 8 9 3),
    (0x1D090003, .bltuc 8 9 3), (0x19090003, .bgeuc 8 9 3), (0x58090003, .blezc 9 3), (0x59290003, .bgezc 9 3)] = true := by decide +kernel

theorem test_decode_branch_jump_2 : decodesTo [
    (0x5C090003, .bgtzc 9 3), (0x5D290003, .bltzc 9 3), (0xD900FFFC, .beqzc 8 65532), (0xF9000003, .bnezc 8 3),
    (0x21280003, .bovc 9 8 3), (0x61280003, .bnvc 9 8 3), (0x18090003, .blezalc 9 3), (0x19290003, .bgezalc 9 3),
    (0x1C090003, .bgtzalc 9 3), (0x1D290003, .bltzalc 9 3), (0x20090003, .beqzalc 9 3), (0x60090003, .bnezalc 9 3),
    (0xD8090008, .jic 9 8), (0xF809FFF8, .jialc 9 65528)] = true := by decide +kernel

theorem test_decode_fpu_arithmetic_1 : decodesTo [
    (0x46041000, .addS 0 2 4), (0x46241000, .addD 0 2 4), (0x46041001, .subS 0 2 4), (0x46241001, .subD 0 2 4),
    (0x46041002, .mulS 0 2 4), (0x46241002, .mulD 0 2 4), (0x46041003, .divS 0 2 4), (0x46241003, .divD 0 2 4), (0x46001004, .sqrtS 0 2),
    (0x46201004, .sqrtD 0 2), (0x46001005, .absS 0 2), (0x46201005, .absD 0 2), (0x46001006, .movS 0 2), (0x46201006, .movD 0 2),
    (0x46001007, .negS 0 2), (0x46201007, .negD 0 2), (0x46001015, .recipS 0 2), (0x46201015, .recipD 0 2), (0x46001016, .rsqrtS 0 2),
    (0x46201016, .rsqrtD 0 2), (0x46041018, .maddfS 0 2 4), (0x46241018, .maddfD 0 2 4), (0x46041019, .msubfS 0 2 4),
    (0x46241019, .msubfD 0 2 4)] = true := by decide +kernel

theorem test_decode_fpu_arithmetic_2 : decodesTo [
    (0x4600101A, .rintS 0 2), (0x4620101A, .rintD 0 2), (0x4600101B, .classS 0 2), (0x4620101B, .classD 0 2), (0x4604101C, .minS 0 2 4),
    (0x4624101C, .minD 0 2 4), (0x4604101D, .minaS 0 2 4), (0x4624101D, .minaD 0 2 4), (0x4604101E, .maxS 0 2 4),
    (0x4624101E, .maxD 0 2 4), (0x4604101F, .maxaS 0 2 4), (0x4624101F, .maxaD 0 2 4), (0x46041010, .selS 0 2 4),
    (0x46041014, .seleqzS 0 2 4), (0x46041017, .selnezS 0 2 4), (0x46241010, .selD 0 2 4), (0x46241014, .seleqzD 0 2 4),
    (0x46241017, .selnezD 0 2 4)] = true := by decide +kernel

theorem test_decode_fpu_compare_1 : decodesTo [
    (0x46841000, .cmpAfS 0 2 4), (0x46A41000, .cmpAfD 0 2 4), (0x46841001, .cmpUnS 0 2 4), (0x46A41001, .cmpUnD 0 2 4),
    (0x46841002, .cmpEqS 0 2 4), (0x46A41002, .cmpEqD 0 2 4), (0x46841003, .cmpUeqS 0 2 4), (0x46A41003, .cmpUeqD 0 2 4),
    (0x46841004, .cmpLtS 0 2 4), (0x46A41004, .cmpLtD 0 2 4), (0x46841005, .cmpUltS 0 2 4), (0x46A41005, .cmpUltD 0 2 4),
    (0x46841006, .cmpLeS 0 2 4), (0x46A41006, .cmpLeD 0 2 4), (0x46841007, .cmpUleS 0 2 4), (0x46A41007, .cmpUleD 0 2 4),
    (0x46841008, .cmpSafS 0 2 4), (0x46A41008, .cmpSafD 0 2 4), (0x46841009, .cmpSunS 0 2 4), (0x46A41009, .cmpSunD 0 2 4),
    (0x4684100A, .cmpSeqS 0 2 4), (0x46A4100A, .cmpSeqD 0 2 4), (0x4684100B, .cmpSueqS 0 2 4), (0x46A4100B, .cmpSueqD 0 2 4)] = true := by decide +kernel

theorem test_decode_fpu_compare_2 : decodesTo [
    (0x4684100C, .cmpSltS 0 2 4), (0x46A4100C, .cmpSltD 0 2 4), (0x4684100D, .cmpSultS 0 2 4), (0x46A4100D, .cmpSultD 0 2 4),
    (0x4684100E, .cmpSleS 0 2 4), (0x46A4100E, .cmpSleD 0 2 4), (0x4684100F, .cmpSuleS 0 2 4), (0x46A4100F, .cmpSuleD 0 2 4),
    (0x46841011, .cmpOrS 0 2 4), (0x46A41011, .cmpOrD 0 2 4), (0x46841012, .cmpUneS 0 2 4), (0x46A41012, .cmpUneD 0 2 4),
    (0x46841013, .cmpNeS 0 2 4), (0x46A41013, .cmpNeD 0 2 4), (0x46841019, .cmpSorS 0 2 4), (0x46A41019, .cmpSorD 0 2 4),
    (0x4684101A, .cmpSuneS 0 2 4), (0x46A4101A, .cmpSuneD 0 2 4), (0x4684101B, .cmpSneS 0 2 4), (0x46A4101B, .cmpSneD 0 2 4)] = true := by decide +kernel

theorem test_decode_fpu_convert_branch_1 : decodesTo [
    (0x46201020, .cvtSD 0 2), (0x46801020, .cvtSW 0 2), (0x46A01020, .cvtSL 0 2), (0x46001021, .cvtDS 0 2), (0x46801021, .cvtDW 0 2),
    (0x46A01021, .cvtDL 0 2), (0x46001024, .cvtWS 0 2), (0x46201024, .cvtWD 0 2), (0x46001025, .cvtLS 0 2), (0x46201025, .cvtLD 0 2),
    (0x4600100C, .roundWS 0 2), (0x4620100C, .roundWD 0 2), (0x46001008, .roundLS 0 2), (0x46201008, .roundLD 0 2),
    (0x4600100D, .truncWS 0 2), (0x4620100D, .truncWD 0 2), (0x46001009, .truncLS 0 2), (0x46201009, .truncLD 0 2),
    (0x4600100E, .ceilWS 0 2), (0x4620100E, .ceilWD 0 2), (0x4600100A, .ceilLS 0 2), (0x4620100A, .ceilLD 0 2),
    (0x4600100F, .floorWS 0 2), (0x4620100F, .floorWD 0 2)] = true := by decide +kernel

theorem test_decode_fpu_convert_branch_2 : decodesTo [
    (0x4600100B, .floorLS 0 2), (0x4620100B, .floorLD 0 2), (0x45220003, .bc1eqz 2 3), (0x45A20003, .bc1nez 2 3)] = true := by decide +kernel

theorem test_decode_trap_fatal_noop_1 : decodesTo [
    (0x012A0030, .tge 9 10 0), (0x012A0031, .tgeu 9 10 0), (0x012A0032, .tlt 9 10 0), (0x012A0033, .tltu 9 10 0),
    (0x012A0034, .teq 9 10 0), (0x012A0036, .tne 9 10 0), (0x0000000D, .brk 0), (0x0000000C, .syscall 0), (0x0000000E, .sdbbp 0),
    (0x04170000, .sigrie 0 0), (0x0000000F, .sync 0), (0x053F0000, .synci 9 0), (0x7D200035, .pref 0 9 0), (0x7D200023, .prefe 0 9 0),
    (0x7D200025, .cache 0 9 0), (0x7D20001B, .cachee 0 9 0), (0x7D20003D, .ginvi 9 0), (0x7D2000BD, .ginvt 9 0),
    (0x7C08103B, .rdhwr 8 2), (0x42000018, .eret), (0x42000058, .eretnc), (0x4200001F, .deret), (0x41686000, .di 8), (0x41686020, .ei 8)] = true := by decide +kernel

theorem test_decode_trap_fatal_noop_2 : decodesTo [
    (0x41680024, .dvp 8), (0x41680004, .evp 8), (0x42000020, .wait), (0x42000001, .tlbr), (0x42000002, .tlbwi), (0x42000003, .tlbinv),
    (0x42000004, .tlbinvf), (0x42000006, .tlbwr), (0x42000008, .tlbp)] = true := by decide +kernel

theorem test_decode_load_store_atomic_1 : decodesTo [
    (0x8128FFFF, .lb 8 9 65535), (0x9128FFFF, .lbu 8 9 65535), (0x8528FFFF, .lh 8 9 65535), (0x9528FFFF, .lhu 8 9 65535),
    (0x8D28FFFF, .lw 8 9 65535), (0xA1280003, .sb 8 9 3), (0xA5280003, .sh 8 9 3), (0xAD280003, .sw 8 9 3), (0xED080004, .lwpc 8 4),
    (0x7D28FE2C, .lbe 8 9 508), (0x7D28FE28, .lbue 8 9 508), (0x7D28FE2D, .lhe 8 9 508), (0x7D28FE29, .lhue 8 9 508),
    (0x7D28FE2F, .lwe 8 9 508), (0x7D287F9C, .sbe 8 9 255), (0x7D287F9D, .she 8 9 255), (0x7D287F9F, .swe 8 9 255),
    (0x7D28FE36, .ll 8 9 508), (0x7D280226, .sc 8 9 4), (0x7D285076, .llwp 8 10 9), (0x7D285066, .scwp 8 10 9),
    (0x7D28FE2E, .lle 8 9 508), (0x7D28021E, .sce 8 9 4), (0x7D28506E, .llwpe 8 10 9)] = true := by decide +kernel

theorem test_decode_load_store_atomic_2 : decodesTo [
    (0x7D28505E, .scwpe 8 10 9), (0xC5220004, .lwc1 2 9 4), (0xE5220004, .swc1 2 9 4), (0xD5220000, .ldc1 2 9 0),
    (0xF5220000, .sdc1 2 9 0)] = true := by decide +kernel

theorem test_decode_coprocessor_moves : decodesTo [
    (0x44081000, .mfc1 8 2), (0x44881000, .mtc1 8 2), (0x44681000, .mfhc1 8 2), (0x44E81000, .mthc1 8 2), (0x4448F800, .cfc1 8 31),
    (0x44C8F800, .ctc1 8 31), (0x48082800, .mfc2 8 5), (0x48882800, .mtc2 8 5), (0x48682000, .mfhc2 8 4), (0x48E82000, .mthc2 8 4),
    (0x48482800, .cfc2 8 5), (0x48C82800, .ctc2 8 5), (0x49484FFC, .lwc2 8 9 2044), (0x49684803, .swc2 8 9 3), (0x49C84800, .ldc2 8 9 0),
    (0x49E84803, .sdc2 8 9 3), (0x49250003, .bc2eqz 5 3), (0x49A50003, .bc2nez 5 3), (0x41454000, .rdpgpr 8 5), (0x41C82800, .wrpgpr 5 8)] = true := by decide +kernel

/-! ### One step of every instruction: the worked examples of the rules R101 to R552 (addr = 0x1000) -/

/-- The state in which the spec's examples start: both coprocessors enabled, all else 0. -/
def base : State := State.resetWith [] 0x1000#32 0#32 0b11#2 Params.default

/-- One entry of the `before` or `after` of an example. -/
inductive Entry where
  | x (r : Reg) (v : Word)
  | f (r : Reg) (v : Word)
  | d (r : Reg) (v : DWord)
  | fcr (r : Reg) (v : Word)
  | c2d (r : Reg) (v : Word)
  | c2c (r : Reg) (v : Word)
  | sx (r : Reg) (v : Word)
  | hi (v : Word)
  | lo (v : Word)
  | pc (v : Word)
  | cop (v : BitVec 2)
  | m8 (a : Word) (v : Byte)
  | m16 (a : Word) (v : Half)
  | m32 (a : Word) (v : Word)
  | m64 (a : Word) (v : DWord)

/-- The state with an entry in place. -/
def Entry.put (s : State) : Entry → State
  | .x r v => s.setX r v
  | .f r v => s.setF r v
  | .d r v => s.setD r v
  | .fcr r v => s.setFcr r v
  | .c2d r v => s.setC2d r v
  | .c2c r v => s.setC2c r v
  | .sx r v => s.setSx r v
  | .hi v => s.setHi v
  | .lo v => s.setLo v
  | .pc v => s.setPc v
  | .cop v => { s with copBit := v }
  | .m8 a v => s.setMem (store8 s.mem a v)
  | .m16 a v => s.setMem (store16 s.mem a v)
  | .m32 a v => s.setMem (store32 s.mem a v)
  | .m64 a v => s.setMem (store64 s.mem a v)

/-- Whether the state has what an entry says. -/
def Entry.holds (s : State) : Entry → Bool
  | .x r v => s.getX r == v
  | .f r v => s.getF r == v
  | .d r v => s.getD r == v
  | .fcr r v => s.getFcr r == v
  | .c2d r v => s.getC2d r == v
  | .c2c r v => s.getC2c r == v
  | .sx r v => s.getSx r == v
  | .hi v => s.hi == v
  | .lo v => s.lo == v
  | .pc v => s.pc == v
  | .cop v => s.copBit == v
  | .m8 a v => load8 s.mem a == v
  | .m16 a v => load16 s.mem a == v
  | .m32 a v => load32 s.mem a == v
  | .m64 a v => load64 s.mem a == v

/-- The state before an example: the entries and the instruction's word at pc. -/
def ready (w : Nat) (before : List Entry) : State := (before.foldl Entry.put base).withFetchWord 32 w

/-- The step of the word answers a next state with these entries and this outcome. -/
noncomputable def runs (w : Nat) (before after : List Entry) (c : Option Condition) : Bool :=
  match step (ready w before) with
  | .next t => after.all (Entry.holds t) && t.raised == c && t.slot == .idle
  | .fault _ => false
  | .refused _ => false

theorem test_run_R101_to_R110 :
    (runs 0x012A4020 [.x 9 0x7FFFFFFF, .x 10 1] [.x 8 0x80000000, .pc 0x00001004] none &&
    runs 0x012A4021 [.x 9 0xFFFFFFFF, .x 10 2] [.x 8 1, .pc 0x00001004] none &&
    runs 0x012A4022 [.x 9 0x80000000, .x 10 1, .x 8 0x00000055] [.x 8 0x00000055, .pc 0x00001004] (some .integerOverflow) &&
    runs 0x012A4023 [.x 9 0, .x 10 1] [.x 8 0xFFFFFFFF, .pc 0x00001004] none &&
    runs 0x25280001 [.x 9 0xFFFFFFFF] [.x 8 0, .pc 0x00001004] none &&
    runs 0x012A4024 [.x 9 0xFF00FF00, .x 10 0x0FF00FF0] [.x 8 0x0F000F00, .pc 0x00001004] none &&
    runs 0x012A4025 [.x 9 0xFF00FF00, .x 10 0x0FF00FF0] [.x 8 0xFFF0FFF0, .pc 0x00001004] none &&
    runs 0x012A4026 [.x 9 0xFF00FF00, .x 10 0x0FF00FF0] [.x 8 0xF0F0F0F0, .pc 0x00001004] none &&
    runs 0x012A4027 [.x 9 0xFF00FF00, .x 10 0x0FF00FF0] [.x 8 0x000F000F, .pc 0x00001004] none &&
    runs 0x3128FFFF [.x 9 0x12345678] [.x 8 0x00005678, .pc 0x00001004] none) = true := by decide +kernel

theorem test_run_R111_to_R120 :
    (runs 0x35288000 [.x 9 0x12340000] [.x 8 0x12348000, .pc 0x00001004] none &&
    runs 0x3928FFFF [.x 9 0x1234FFFF] [.x 8 0x12340000, .pc 0x00001004] none &&
    runs 0x012A402A [.x 9 0xFFFFFFFF, .x 10 0] [.x 8 1, .pc 0x00001004] none &&
    runs 0x012A402B [.x 9 0xFFFFFFFF, .x 10 0] [.x 8 0, .pc 0x00001004] none &&
    runs 0x2928FFFF [.x 9 0xFFFFFFFE] [.x 8 1, .pc 0x00001004] none &&
    runs 0x2D28FFFF [.x 9 5] [.x 8 1, .pc 0x00001004] none &&
    runs 0x3C081234 [] [.x 8 0x12340000, .pc 0x00001004] none &&
    runs 0x3D28FFFF [.x 9 0x00010005] [.x 8 5, .pc 0x00001004] none &&
    runs 0x012A4035 [.x 9 7, .x 10 0] [.x 8 7, .pc 0x00001004] none &&
    runs 0x012A4037 [.x 9 7, .x 10 0, .x 8 9] [.x 8 0, .pc 0x00001004] none) = true := by decide +kernel

theorem test_run_R121_to_R130 :
    (runs 0x01204050 [.x 9 0x00010000] [.x 8 0x0000000F, .pc 0x00001004] none &&
    runs 0x01204051 [.x 9 0xFFFF0000] [.x 8 0x00000010, .pc 0x00001004] none &&
    runs 0x7C094420 [.x 9 0x12345680] [.x 8 0xFFFFFF80, .pc 0x00001004] none &&
    runs 0x7C094620 [.x 9 0x12348000] [.x 8 0xFFFF8000, .pc 0x00001004] none &&
    runs 0x7C0940A0 [.x 9 0x11223344] [.x 8 0x22114433, .pc 0x00001004] none &&
    runs 0x7C094020 [.x 9 0x01020480] [.x 8 0x80402001, .pc 0x00001004] none &&
    runs 0x7D2A4260 [.x 9 0xAABBCCDD, .x 10 0x11223344] [.x 8 0x223344AA, .pc 0x00001004] none &&
    runs 0x7D283A00 [.x 9 0x12345678] [.x 8 0x00000056, .pc 0x00001004] none &&
    runs 0x7D287A04 [.x 9 0x000000AB, .x 8 0x12345678] [.x 8 0x1234AB78, .pc 0x00001004] none &&
    runs 0x012A4045 [.x 9 3, .x 10 0x00000100] [.x 8 0x0000010C, .pc 0x00001004] none) = true := by decide +kernel

theorem test_run_R131_to_R133 :
    (runs 0xED000004 [] [.x 8 0x00001010, .pc 0x00001004] none &&
    runs 0xED1E0001 [] [.x 8 0x00011000, .pc 0x00001004] none &&
    runs 0xED1F0001 [] [.x 8 0x00010000, .pc 0x00001004] none) = true := by decide +kernel

theorem test_run_R151_to_R158 :
    (runs 0x00094100 [.x 9 0xF0000001] [.x 8 0x00000010, .pc 0x00001004] none &&
    runs 0x00094102 [.x 9 0x80000010] [.x 8 0x08000001, .pc 0x00001004] none &&
    runs 0x00094103 [.x 9 0x80000010] [.x 8 0xF8000001, .pc 0x00001004] none &&
    runs 0x01494004 [.x 9 1, .x 10 0x00000021] [.x 8 2, .pc 0x00001004] none &&
    runs 0x01494006 [.x 9 0x80000000, .x 10 0x00000023] [.x 8 0x10000000, .pc 0x00001004] none &&
    runs 0x01494007 [.x 9 0x80000000, .x 10 0x00000023] [.x 8 0xF0000000, .pc 0x00001004] none &&
    runs 0x00294202 [.x 9 0x12345678] [.x 8 0x78123456, .pc 0x00001004] none &&
    runs 0x01494046 [.x 9 0x12345678, .x 10 0x00000028] [.x 8 0x78123456, .pc 0x00001004] none) = true := by decide +kernel

theorem test_run_R167_to_R176 :
    (runs 0x012A0018 [.x 9 0xFFFFFFFF, .x 10 2] [.hi 0xFFFFFFFF, .lo 0xFFFFFFFE, .pc 0x00001004] none &&
    runs 0x012A0019 [.x 9 0xFFFFFFFF, .x 10 2] [.hi 0x00000001, .lo 0xFFFFFFFE, .pc 0x00001004] none &&
    runs 0x012A001A [.x 9 0xFFFFFFF9, .x 10 2] [.lo 0xFFFFFFFD, .hi 0xFFFFFFFF, .pc 0x00001004] none &&
    runs 0x012A001B [.x 9 0xFFFFFFF9, .x 10 2] [.lo 0x7FFFFFFC, .hi 0x00000001, .pc 0x00001004] none &&
    runs 0x00004010 [.hi 0xDEADBEEF] [.x 8 0xDEADBEEF, .pc 0x00001004] none &&
    runs 0x00004012 [.lo 0x000000E6] [.x 8 0x000000E6, .pc 0x00001004] none &&
    runs 0x01200011 [.x 9 5, .lo 0x00000007] [.hi 0x00000005, .lo 0x00000007, .pc 0x00001004] none &&
    runs 0x01200013 [.x 9 5, .hi 0x00000007] [.lo 0x00000005, .hi 0x00000007, .pc 0x00001004] none &&
    runs 0x712A0000 [.x 9 5, .x 10 6, .hi 0x00000000, .lo 0x000000C8] [.hi 0x00000000, .lo 0x000000E6, .pc 0x00001004] none &&
    runs 0x712A0001 [.x 9 0xFFFFFFFF, .x 10 2, .hi 0x00000000, .lo 0x00000003] [.hi 0x00000002, .lo 0x00000001, .pc 0x00001004] none) = true := by decide +kernel

theorem test_run_R177_to_R186 :
    (runs 0x712A0004 [.x 9 5, .x 10 6, .hi 0x00000000, .lo 0x00000000] [.hi 0xFFFFFFFF, .lo 0xFFFFFFE2, .pc 0x00001004] none &&
    runs 0x712A0005 [.x 9 0xFFFFFFFF, .x 10 2, .hi 0x00000002, .lo 0x00000001] [.hi 0x00000000, .lo 0x00000003, .pc 0x00001004] none &&
    runs 0x012A4098 [.x 9 0xFFFFFFFF, .x 10 2] [.x 8 0xFFFFFFFE, .pc 0x00001004] none &&
    runs 0x012A40D8 [.x 9 0xFFFFFFFF, .x 10 2] [.x 8 0xFFFFFFFF, .pc 0x00001004] none &&
    runs 0x012A4099 [.x 9 0xFFFFFFFF, .x 10 2] [.x 8 0xFFFFFFFE, .pc 0x00001004] none &&
    runs 0x012A40D9 [.x 9 0xFFFFFFFF, .x 10 2] [.x 8 1, .pc 0x00001004] none &&
    runs 0x012A409A [.x 9 0xFFFFFFF9, .x 10 2] [.x 8 0xFFFFFFFD, .pc 0x00001004] none &&
    runs 0x012A40DA [.x 9 0xFFFFFFF9, .x 10 2] [.x 8 0xFFFFFFFF, .pc 0x00001004] none &&
    runs 0x012A409B [.x 9 0xFFFFFFF9, .x 10 2] [.x 8 0x7FFFFFFC, .pc 0x00001004] none &&
    runs 0x012A40DB [.x 9 0xFFFFFFF9, .x 10 2] [.x 8 1, .pc 0x00001004] none) = true := by decide +kernel

theorem test_run_R198_to_R207 :
    (runs 0x08000404 [] [.pc 0x00001010] none &&
    runs 0x0C000800 [.m32 0x1004 0x2408002A] [.x 31 0x00001008, .x 8 0x0000002A, .pc 0x00002000] none &&
    runs 0x03E00008 [.x 31 0x00001008] [.pc 0x00001008] none &&
    runs 0x0120F809 [.x 9 0x00002000, .m32 0x1004 0x2408002A] [.x 31 0x00001008, .x 8 0x0000002A, .pc 0x00002000] none &&
    runs 0x11090003 [.x 8 5, .x 9 5] [.pc 0x00001010] none &&
    runs 0x1509FFFE [.x 8 5, .x 9 6] [.pc 0x00000FFC] none &&
    runs 0x19000003 [.x 8 0] [.pc 0x00001010] none &&
    runs 0x1D000003 [.x 8 0] [.pc 0x00001004] none &&
    runs 0x05000003 [.x 8 0x80000000] [.pc 0x00001010] none &&
    runs 0x05010003 [.x 8 0] [.pc 0x00001010] none) = true := by decide +kernel

theorem test_run_R208_to_R217 :
    (runs 0x05100003 [.x 8 1, .m32 0x1004 0x2408002A] [.x 31 0x00001008, .x 8 0x0000002A, .pc 0x00001008] none &&
    runs 0x04100000 [] [.x 31 0x00001008, .pc 0x00001004] none &&
    runs 0x05110003 [.x 8 0] [.x 31 0x00001008, .pc 0x00001010] none &&
    runs 0x04110002 [.m32 0x1004 0x2408002A] [.x 31 0x00001008, .x 8 0x0000002A, .pc 0x0000100C] none &&
    runs 0xCBFFFFFF [] [.pc 0x00001000] none &&
    runs 0xE8000003 [] [.x 31 0x00001004, .pc 0x00001010] none &&
    runs 0x21090003 [.x 8 5, .x 9 5] [.pc 0x00001010] none &&
    runs 0x61090003 [.x 8 5, .x 9 5] [.pc 0x00001004] none &&
    runs 0x5D090003 [.x 8 0xFFFFFFFF, .x 9 0] [.pc 0x00001010] none &&
    runs 0x59090003 [.x 8 0xFFFFFFFF, .x 9 0] [.pc 0x00001004] none) = true := by decide +kernel

theorem test_run_R218_to_R227 :
    (runs 0x1D090003 [.x 8 0xFFFFFFFF, .x 9 0] [.pc 0x00001004] none &&
    runs 0x19090003 [.x 8 0xFFFFFFFF, .x 9 0] [.pc 0x00001010] none &&
    runs 0x58090003 [.x 9 0] [.pc 0x00001010] none &&
    runs 0x59290003 [.x 9 0x80000000] [.pc 0x00001004] none &&
    runs 0x5C090003 [.x 9 1] [.pc 0x00001010] none &&
    runs 0x5D290003 [.x 9 0x80000000] [.pc 0x00001010] none &&
    runs 0xD900FFFC [.x 8 0] [.pc 0x00000FF4] none &&
    runs 0xF9000003 [.x 8 0] [.pc 0x00001004] none &&
    runs 0x21280003 [.x 9 0x7FFFFFFF, .x 8 1] [.pc 0x00001010] none &&
    runs 0x61280003 [.x 9 0x7FFFFFFF, .x 8 1] [.pc 0x00001004] none) = true := by decide +kernel

theorem test_run_R228_to_R235 :
    (runs 0x18090003 [.x 9 0] [.x 31 0x00001004, .pc 0x00001010] none &&
    runs 0x19290003 [.x 9 0x80000000] [.x 31 0x00001004, .pc 0x00001004] none &&
    runs 0x1C090003 [.x 9 1] [.x 31 0x00001004, .pc 0x00001010] none &&
    runs 0x1D290003 [.x 9 0x80000000] [.x 31 0x00001004, .pc 0x00001010] none &&
    runs 0x20090003 [.x 9 0] [.x 31 0x00001004, .pc 0x00001010] none &&
    runs 0x60090003 [.x 9 0] [.x 31 0x00001004, .pc 0x00001004] none &&
    runs 0xD8090008 [.x 9 0x00002000] [.pc 0x00002008] none &&
    runs 0xF809FFF8 [.x 9 0x00002000] [.x 31 0x00001004, .pc 0x00001FF8] none) = true := by decide +kernel

theorem test_run_R255_to_R264 :
    (runs 0x46041000 [.f 2 0x3FC00000, .f 4 0x40100000] [.f 0 0x40700000, .pc 0x00001004] none &&
    runs 0x46241000 [.d 2 0x3FF8000000000000, .d 4 0x4002000000000000] [.d 0 0x400E000000000000, .pc 0x00001004] none &&
    runs 0x46041001 [.f 2 0x3FC00000, .f 4 0x40100000] [.f 0 0xBF400000, .pc 0x00001004] none &&
    runs 0x46241001 [.d 2 0x3FF8000000000000, .d 4 0x4002000000000000] [.d 0 0xBFE8000000000000, .pc 0x00001004] none &&
    runs 0x46041002 [.f 2 0x3FC00000, .f 4 0xC0000000] [.f 0 0xC0400000, .pc 0x00001004] none &&
    runs 0x46241002 [.d 2 0x3FF8000000000000, .d 4 0xC000000000000000] [.d 0 0xC008000000000000, .pc 0x00001004] none &&
    runs 0x46041003 [.f 2 0x3F800000, .f 4 0] [.f 0 0x7F800000, .pc 0x00001004] none &&
    runs 0x46241003 [.d 2 0x3FF0000000000000, .d 4 0x8000000000000000] [.d 0 0xFFF0000000000000, .pc 0x00001004] none &&
    runs 0x46001004 [.f 2 0x40100000] [.f 0 0x3FC00000, .pc 0x00001004] none &&
    runs 0x46201004 [.d 2 0x4002000000000000] [.d 0 0x3FF8000000000000, .pc 0x00001004] none) = true := by decide +kernel

theorem test_run_R265_to_R274 :
    (runs 0x46001005 [.f 2 0xBFC00000] [.f 0 0x3FC00000, .pc 0x00001004] none &&
    runs 0x46201005 [.d 2 0xFFF8000000000001] [.d 0 0x7FF8000000000001, .pc 0x00001004] none &&
    runs 0x46001006 [.f 2 0x7FA00000] [.f 0 0x7FA00000, .pc 0x00001004] none &&
    runs 0x46201006 [.d 2 0x8000000000000000] [.d 0 0x8000000000000000, .pc 0x00001004] none &&
    runs 0x46001007 [.f 2 0] [.f 0 0x80000000, .pc 0x00001004] none &&
    runs 0x46201007 [.d 2 0x3FF8000000000000] [.d 0 0xBFF8000000000000, .pc 0x00001004] none &&
    runs 0x46001015 [.f 2 0x40800000] [.f 0 0x3E800000, .pc 0x00001004] none &&
    runs 0x46201015 [.d 2 0x8000000000000000] [.d 0 0xFFF0000000000000, .pc 0x00001004] none &&
    runs 0x46001016 [.f 2 0x40800000] [.f 0 0x3F000000, .pc 0x00001004] none &&
    runs 0x46201016 [.d 2 0x3FD0000000000000] [.d 0 0x4000000000000000, .pc 0x00001004] none) = true := by decide +kernel

theorem test_run_R275_to_R284 :
    (runs 0x46041018 [.f 0 0xBF800000, .f 2 0x3F800800, .f 4 0x3F800800] [.f 0 0x3A000400, .pc 0x00001004] none &&
    runs 0x46241018 [.d 0 0x3FE0000000000000, .d 2 0x4008000000000000, .d 4 0x4010000000000000] [.d 0 0x4029000000000000, .pc 0x00001004] none &&
    runs 0x46041019 [.f 0 0x41A00000, .f 2 0x40400000, .f 4 0x40800000] [.f 0 0x41000000, .pc 0x00001004] none &&
    runs 0x46241019 [.d 0 0x4008000000000000, .d 2 0x3FF8000000000000, .d 4 0x4000000000000000] [.d 0 0x0000000000000000, .pc 0x00001004] none &&
    runs 0x4600101A [.f 2 0x40200000] [.f 0 0x40000000, .pc 0x00001004] none &&
    runs 0x4620101A [.d 2 0xBFD999999999999A] [.d 0 0x8000000000000000, .pc 0x00001004] none &&
    runs 0x4600101B [.f 2 0x7FA00000] [.f 0 1, .pc 0x00001004] none &&
    runs 0x4620101B [.d 2 0x8000000000000000] [.d 0 0x0000000000000020, .pc 0x00001004] none &&
    runs 0x4604101C [.f 2 0x80000000, .f 4 0] [.f 0 0x80000000, .pc 0x00001004] none &&
    runs 0x4624101C [.d 2 0x3FF0000000000000, .d 4 0x7FF8000000000000] [.d 0 0x3FF0000000000000, .pc 0x00001004] none) = true := by decide +kernel

theorem test_run_R285_to_R294 :
    (runs 0x4604101D [.f 2 0xBF800000, .f 4 0x40000000] [.f 0 0xBF800000, .pc 0x00001004] none &&
    runs 0x4624101D [.d 2 0xC000000000000000, .d 4 0x4000000000000000] [.d 0 0xC000000000000000, .pc 0x00001004] none &&
    runs 0x4604101E [.f 2 0x80000000, .f 4 0] [.f 0 0, .pc 0x00001004] none &&
    runs 0x4624101E [.d 2 0x7FF8000000000000, .d 4 0xC008000000000000] [.d 0 0xC008000000000000, .pc 0x00001004] none &&
    runs 0x4604101F [.f 2 0xC0400000, .f 4 0x40000000] [.f 0 0xC0400000, .pc 0x00001004] none &&
    runs 0x4624101F [.d 2 0xC000000000000000, .d 4 0x4000000000000000] [.d 0 0x4000000000000000, .pc 0x00001004] none &&
    runs 0x46041010 [.f 0 1, .f 2 0x3F800000, .f 4 0x40000000] [.f 0 0x40000000, .pc 0x00001004] none &&
    runs 0x46041014 [.f 0 7, .f 2 0x3F800000, .f 4 2] [.f 0 0x3F800000, .pc 0x00001004] none &&
    runs 0x46041017 [.f 0 7, .f 2 0x3F800000, .f 4 2] [.f 0 0, .pc 0x00001004] none &&
    runs 0x46241010 [.d 0 0x0000000000000001, .d 2 0x3FF0000000000000, .d 4 0x4000000000000000] [.d 0 0x4000000000000000, .pc 0x00001004] none) = true := by decide +kernel

theorem test_run_R295_to_R296 :
    (runs 0x46241014 [.d 0 0x0000000000000007, .d 2 0x3FF0000000000000, .d 4 0x0000000000000002] [.d 0 0x3FF0000000000000, .pc 0x00001004] none &&
    runs 0x46241017 [.d 0 0x0000000000000007, .d 2 0x3FF0000000000000, .d 4 0x0000000000000002] [.d 0 0x0000000000000000, .pc 0x00001004] none) = true := by decide +kernel

theorem test_run_R323_to_R332 :
    (runs 0x46841000 [.f 0 0x00000055, .f 2 0x7FC00000, .f 4 0x3F800000] [.f 0 0, .pc 0x00001004] none &&
    runs 0x46A41000 [.d 0 0x0000000000000055, .d 2 0x7FF8000000000000, .d 4 0x3FF0000000000000] [.d 0 0x0000000000000000, .pc 0x00001004] none &&
    runs 0x46841001 [.f 0 0x00000055, .f 2 0x7FC00000, .f 4 0x3F800000] [.f 0 0xFFFFFFFF, .pc 0x00001004] none &&
    runs 0x46A41001 [.d 0 0x0000000000000055, .d 2 0x7FF8000000000000, .d 4 0x3FF0000000000000] [.d 0 0xFFFFFFFFFFFFFFFF, .pc 0x00001004] none &&
    runs 0x46841002 [.f 0 0x00000055, .f 2 0x7FC00000, .f 4 0x3F800000] [.f 0 0, .pc 0x00001004] none &&
    runs 0x46A41002 [.d 0 0x0000000000000055, .d 2 0x7FF8000000000000, .d 4 0x3FF0000000000000] [.d 0 0x0000000000000000, .pc 0x00001004] none &&
    runs 0x46841003 [.f 0 0x00000055, .f 2 0x7FC00000, .f 4 0x3F800000] [.f 0 0xFFFFFFFF, .pc 0x00001004] none &&
    runs 0x46A41003 [.d 0 0x0000000000000055, .d 2 0x7FF8000000000000, .d 4 0x3FF0000000000000] [.d 0 0xFFFFFFFFFFFFFFFF, .pc 0x00001004] none &&
    runs 0x46841004 [.f 0 0x00000055, .f 2 0x7FC00000, .f 4 0x3F800000] [.f 0 0, .pc 0x00001004] none &&
    runs 0x46A41004 [.d 0 0x0000000000000055, .d 2 0x7FF8000000000000, .d 4 0x3FF0000000000000] [.d 0 0x0000000000000000, .pc 0x00001004] none) = true := by decide +kernel

theorem test_run_R333_to_R342 :
    (runs 0x46841005 [.f 0 0x00000055, .f 2 0x7FC00000, .f 4 0x3F800000] [.f 0 0xFFFFFFFF, .pc 0x00001004] none &&
    runs 0x46A41005 [.d 0 0x0000000000000055, .d 2 0x7FF8000000000000, .d 4 0x3FF0000000000000] [.d 0 0xFFFFFFFFFFFFFFFF, .pc 0x00001004] none &&
    runs 0x46841006 [.f 0 0x00000055, .f 2 0x7FC00000, .f 4 0x3F800000] [.f 0 0, .pc 0x00001004] none &&
    runs 0x46A41006 [.d 0 0x0000000000000055, .d 2 0x7FF8000000000000, .d 4 0x3FF0000000000000] [.d 0 0x0000000000000000, .pc 0x00001004] none &&
    runs 0x46841007 [.f 0 0x00000055, .f 2 0x7FC00000, .f 4 0x3F800000] [.f 0 0xFFFFFFFF, .pc 0x00001004] none &&
    runs 0x46A41007 [.d 0 0x0000000000000055, .d 2 0x7FF8000000000000, .d 4 0x3FF0000000000000] [.d 0 0xFFFFFFFFFFFFFFFF, .pc 0x00001004] none &&
    runs 0x46841008 [.f 0 0x00000055, .f 2 0x7FC00000, .f 4 0x3F800000] [.f 0 0, .pc 0x00001004] (some .invalidFloatingPointOperation) &&
    runs 0x46A41008 [.d 0 0x0000000000000055, .d 2 0x7FF8000000000000, .d 4 0x3FF0000000000000] [.d 0 0x0000000000000000, .pc 0x00001004] (some .invalidFloatingPointOperation) &&
    runs 0x46841009 [.f 0 0x00000055, .f 2 0x7FC00000, .f 4 0x3F800000] [.f 0 0xFFFFFFFF, .pc 0x00001004] (some .invalidFloatingPointOperation) &&
    runs 0x46A41009 [.d 0 0x0000000000000055, .d 2 0x7FF8000000000000, .d 4 0x3FF0000000000000] [.d 0 0xFFFFFFFFFFFFFFFF, .pc 0x00001004] (some .invalidFloatingPointOperation)) = true := by decide +kernel

theorem test_run_R343_to_R352 :
    (runs 0x4684100A [.f 0 0x00000055, .f 2 0x7FC00000, .f 4 0x3F800000] [.f 0 0, .pc 0x00001004] (some .invalidFloatingPointOperation) &&
    runs 0x46A4100A [.d 0 0x0000000000000055, .d 2 0x7FF8000000000000, .d 4 0x3FF0000000000000] [.d 0 0x0000000000000000, .pc 0x00001004] (some .invalidFloatingPointOperation) &&
    runs 0x4684100B [.f 0 0x00000055, .f 2 0x7FC00000, .f 4 0x3F800000] [.f 0 0xFFFFFFFF, .pc 0x00001004] (some .invalidFloatingPointOperation) &&
    runs 0x46A4100B [.d 0 0x0000000000000055, .d 2 0x7FF8000000000000, .d 4 0x3FF0000000000000] [.d 0 0xFFFFFFFFFFFFFFFF, .pc 0x00001004] (some .invalidFloatingPointOperation) &&
    runs 0x4684100C [.f 0 0x00000055, .f 2 0x7FC00000, .f 4 0x3F800000] [.f 0 0, .pc 0x00001004] (some .invalidFloatingPointOperation) &&
    runs 0x46A4100C [.d 0 0x0000000000000055, .d 2 0x7FF8000000000000, .d 4 0x3FF0000000000000] [.d 0 0x0000000000000000, .pc 0x00001004] (some .invalidFloatingPointOperation) &&
    runs 0x4684100D [.f 0 0x00000055, .f 2 0x7FC00000, .f 4 0x3F800000] [.f 0 0xFFFFFFFF, .pc 0x00001004] (some .invalidFloatingPointOperation) &&
    runs 0x46A4100D [.d 0 0x0000000000000055, .d 2 0x7FF8000000000000, .d 4 0x3FF0000000000000] [.d 0 0xFFFFFFFFFFFFFFFF, .pc 0x00001004] (some .invalidFloatingPointOperation) &&
    runs 0x4684100E [.f 0 0x00000055, .f 2 0x7FC00000, .f 4 0x3F800000] [.f 0 0, .pc 0x00001004] (some .invalidFloatingPointOperation) &&
    runs 0x46A4100E [.d 0 0x0000000000000055, .d 2 0x7FF8000000000000, .d 4 0x3FF0000000000000] [.d 0 0x0000000000000000, .pc 0x00001004] (some .invalidFloatingPointOperation)) = true := by decide +kernel

theorem test_run_R353_to_R362 :
    (runs 0x4684100F [.f 0 0x00000055, .f 2 0x7FC00000, .f 4 0x3F800000] [.f 0 0xFFFFFFFF, .pc 0x00001004] (some .invalidFloatingPointOperation) &&
    runs 0x46A4100F [.d 0 0x0000000000000055, .d 2 0x7FF8000000000000, .d 4 0x3FF0000000000000] [.d 0 0xFFFFFFFFFFFFFFFF, .pc 0x00001004] (some .invalidFloatingPointOperation) &&
    runs 0x46841011 [.f 0 0x00000055, .f 2 0x7FC00000, .f 4 0x3F800000] [.f 0 0, .pc 0x00001004] none &&
    runs 0x46A41011 [.d 0 0x0000000000000055, .d 2 0x7FF8000000000000, .d 4 0x3FF0000000000000] [.d 0 0x0000000000000000, .pc 0x00001004] none &&
    runs 0x46841012 [.f 0 0x00000055, .f 2 0x7FC00000, .f 4 0x3F800000] [.f 0 0xFFFFFFFF, .pc 0x00001004] none &&
    runs 0x46A41012 [.d 0 0x0000000000000055, .d 2 0x7FF8000000000000, .d 4 0x3FF0000000000000] [.d 0 0xFFFFFFFFFFFFFFFF, .pc 0x00001004] none &&
    runs 0x46841013 [.f 0 0x00000055, .f 2 0x7FC00000, .f 4 0x3F800000] [.f 0 0, .pc 0x00001004] none &&
    runs 0x46A41013 [.d 0 0x0000000000000055, .d 2 0x7FF8000000000000, .d 4 0x3FF0000000000000] [.d 0 0x0000000000000000, .pc 0x00001004] none &&
    runs 0x46841019 [.f 0 0x00000055, .f 2 0x7FC00000, .f 4 0x3F800000] [.f 0 0, .pc 0x00001004] (some .invalidFloatingPointOperation) &&
    runs 0x46A41019 [.d 0 0x0000000000000055, .d 2 0x7FF8000000000000, .d 4 0x3FF0000000000000] [.d 0 0x0000000000000000, .pc 0x00001004] (some .invalidFloatingPointOperation)) = true := by decide +kernel

theorem test_run_R363_to_R366 :
    (runs 0x4684101A [.f 0 0x00000055, .f 2 0x7FC00000, .f 4 0x3F800000] [.f 0 0xFFFFFFFF, .pc 0x00001004] (some .invalidFloatingPointOperation) &&
    runs 0x46A4101A [.d 0 0x0000000000000055, .d 2 0x7FF8000000000000, .d 4 0x3FF0000000000000] [.d 0 0xFFFFFFFFFFFFFFFF, .pc 0x00001004] (some .invalidFloatingPointOperation) &&
    runs 0x4684101B [.f 0 0x00000055, .f 2 0x7FC00000, .f 4 0x3F800000] [.f 0 0, .pc 0x00001004] (some .invalidFloatingPointOperation) &&
    runs 0x46A4101B [.d 0 0x0000000000000055, .d 2 0x7FF8000000000000, .d 4 0x3FF0000000000000] [.d 0 0x0000000000000000, .pc 0x00001004] (some .invalidFloatingPointOperation)) = true := by decide +kernel

theorem test_run_R381_to_R390 :
    (runs 0x46201020 [.d 2 0x3FF0000010000000] [.f 0 0x3F800000, .pc 0x00001004] none &&
    runs 0x46801020 [.f 2 0x01000001] [.f 0 0x4B800000, .pc 0x00001004] none &&
    runs 0x46A01020 [.d 2 0xFFFFFFFFFFFFFFFF] [.f 0 0xBF800000, .pc 0x00001004] none &&
    runs 0x46001021 [.f 2 0xBDCCCCCD] [.d 0 0xBFB99999A0000000, .pc 0x00001004] none &&
    runs 0x46801021 [.f 2 0x80000000] [.d 0 0xC1E0000000000000, .pc 0x00001004] none &&
    runs 0x46A01021 [.d 2 0x0020000000000001] [.d 0 0x4340000000000000, .pc 0x00001004] none &&
    runs 0x46001024 [.f 2 0x40200000] [.f 0 2, .pc 0x00001004] none &&
    runs 0x46201024 [.d 2 0x4004000000000000] [.f 0 2, .pc 0x00001004] none &&
    runs 0x46001025 [.f 2 0x40200000] [.d 0 0x0000000000000002, .pc 0x00001004] none &&
    runs 0x46201025 [.d 2 0x4004000000000000] [.d 0 0x0000000000000002, .pc 0x00001004] none) = true := by decide +kernel

theorem test_run_R391_to_R400 :
    (runs 0x4600100C [.f 2 0x40600000] [.f 0 4, .pc 0x00001004] none &&
    runs 0x4620100C [.d 2 0x400C000000000000] [.f 0 4, .pc 0x00001004] none &&
    runs 0x46001008 [.f 2 0x40600000] [.d 0 0x0000000000000004, .pc 0x00001004] none &&
    runs 0x46201008 [.d 2 0x400C000000000000] [.d 0 0x0000000000000004, .pc 0x00001004] none &&
    runs 0x4600100D [.f 2 0xC02CCCCD] [.f 0 0xFFFFFFFE, .pc 0x00001004] none &&
    runs 0x4620100D [.d 2 0xC00599999999999A] [.f 0 0xFFFFFFFE, .pc 0x00001004] none &&
    runs 0x46001009 [.f 2 0xC02CCCCD] [.d 0 0xFFFFFFFFFFFFFFFE, .pc 0x00001004] none &&
    runs 0x46201009 [.d 2 0xC00599999999999A] [.d 0 0xFFFFFFFFFFFFFFFE, .pc 0x00001004] none &&
    runs 0x4600100E [.f 2 0xC02CCCCD] [.f 0 0xFFFFFFFE, .pc 0x00001004] none &&
    runs 0x4620100E [.d 2 0xC00599999999999A] [.f 0 0xFFFFFFFE, .pc 0x00001004] none) = true := by decide +kernel

theorem test_run_R401_to_R408 :
    (runs 0x4600100A [.f 2 0xC02CCCCD] [.d 0 0xFFFFFFFFFFFFFFFE, .pc 0x00001004] none &&
    runs 0x4620100A [.d 2 0xC00599999999999A] [.d 0 0xFFFFFFFFFFFFFFFE, .pc 0x00001004] none &&
    runs 0x4600100F [.f 2 0xC02CCCCD] [.f 0 0xFFFFFFFD, .pc 0x00001004] none &&
    runs 0x4620100F [.d 2 0xC00599999999999A] [.f 0 0xFFFFFFFD, .pc 0x00001004] none &&
    runs 0x4600100B [.f 2 0xC02CCCCD] [.d 0 0xFFFFFFFFFFFFFFFD, .pc 0x00001004] none &&
    runs 0x4620100B [.d 2 0xC00599999999999A] [.d 0 0xFFFFFFFFFFFFFFFD, .pc 0x00001004] none &&
    runs 0x45220003 [.f 2 0xFFFFFFFE] [.pc 0x00001010] none &&
    runs 0x45A20003 [.f 2 0xFFFFFFFF] [.pc 0x00001010] none) = true := by decide +kernel

theorem test_run_R422_to_R431 :
    (runs 0x012A0030 [.x 9 0, .x 10 0xFFFFFFFF] [.pc 0x00001004] (some .trap) &&
    runs 0x012A0031 [.x 9 0xFFFFFFFF, .x 10 0] [.pc 0x00001004] (some .trap) &&
    runs 0x012A0032 [.x 9 0xFFFFFFFF, .x 10 0] [.pc 0x00001004] (some .trap) &&
    runs 0x012A0033 [.x 9 0, .x 10 0xFFFFFFFF] [.pc 0x00001004] (some .trap) &&
    runs 0x012A0034 [.x 9 5, .x 10 5] [.pc 0x00001004] (some .trap) &&
    runs 0x012A0036 [.x 9 5, .x 10 6] [.pc 0x00001004] (some .trap) &&
    runs 0x0000000D [] [.pc 0x00001004] (some .breakpoint) &&
    runs 0x0000000C [.x 2 0x0000000A] [.x 2 0x0000000A, .pc 0x00001004] (some .syscall) &&
    runs 0x0000000E [] [.pc 0x00001004] (some .debugBreakpoint) &&
    runs 0x04170000 [] [.pc 0x00001004] (some .reservedInstruction)) = true := by decide +kernel

theorem test_run_R435_to_R444 :
    (runs 0x0000000F [] [.pc 0x00001004] none &&
    runs 0x053F0000 [] [.pc 0x00001004] none &&
    runs 0x7D200035 [.x 9 0xFFFFFFF0] [.x 9 0xFFFFFFF0, .pc 0x00001004] none &&
    runs 0x7D200023 [] [.pc 0x00001004] none &&
    runs 0x7D200025 [] [.pc 0x00001004] none &&
    runs 0x7D20001B [] [.pc 0x00001004] none &&
    runs 0x7D20003D [] [.pc 0x00001004] none &&
    runs 0x7D2000BD [] [.pc 0x00001004] none &&
    runs 0x7C08103B [.x 8 0x00001234] [.x 8 0x00001234, .pc 0x00001004] none &&
    runs 0x42000018 [] [.pc 0x00001004] none) = true := by decide +kernel

theorem test_run_R445_to_R454 :
    (runs 0x42000058 [] [.pc 0x00001004] none &&
    runs 0x4200001F [] [.pc 0x00001004] none &&
    runs 0x41686000 [.x 8 0x00001234] [.x 8 0x00001234, .pc 0x00001004] none &&
    runs 0x41686020 [.x 8 0x00001234] [.x 8 0x00001234, .pc 0x00001004] none &&
    runs 0x41680024 [] [.pc 0x00001004] none &&
    runs 0x41680004 [] [.pc 0x00001004] none &&
    runs 0x42000020 [] [.pc 0x00001004] none &&
    runs 0x42000001 [] [.pc 0x00001004] none &&
    runs 0x42000002 [] [.pc 0x00001004] none &&
    runs 0x42000003 [] [.pc 0x00001004] none) = true := by decide +kernel

theorem test_run_R455_to_R457 :
    (runs 0x42000004 [] [.pc 0x00001004] none &&
    runs 0x42000006 [] [.pc 0x00001004] none &&
    runs 0x42000008 [] [.pc 0x00001004] none) = true := by decide +kernel

theorem test_run_R486_to_R495 :
    (runs 0x8128FFFF [.x 9 0x00002001, .m8 0x2000 0x80] [.x 8 0xFFFFFF80, .pc 0x00001004] none &&
    runs 0x9128FFFF [.x 9 0x00002001, .m8 0x2000 0x80] [.x 8 0x00000080, .pc 0x00001004] none &&
    runs 0x8528FFFF [.x 9 0x00002001, .m16 0x2000 0x8001] [.x 8 0xFFFF8001, .pc 0x00001004] none &&
    runs 0x9528FFFF [.x 9 0x00002001, .m16 0x2000 0x8001] [.x 8 0x00008001, .pc 0x00001004] none &&
    runs 0x8D28FFFF [.x 9 0x00002001, .m32 0x2000 0x80010203] [.x 8 0x80010203, .pc 0x00001004] none &&
    runs 0xA1280003 [.x 9 0x00002000, .x 8 0xA1B2C3D4, .m64 0x2000 0x0000000000000000] [.m64 0x2000 0x000000D400000000, .pc 0x00001004] none &&
    runs 0xA5280003 [.x 9 0x00002000, .x 8 0xA1B2C3D4, .m64 0x2000 0x0000000000000000] [.m64 0x2000 0x000000C3D4000000, .pc 0x00001004] none &&
    runs 0xAD280003 [.x 9 0x00002000, .x 8 0xA1B2C3D4, .m64 0x2000 0x0000000000000000] [.m64 0x2000 0x000000A1B2C3D400, .pc 0x00001004] none &&
    runs 0xED080004 [.m32 0x1010 0xDEADBEEF] [.x 8 0xDEADBEEF, .pc 0x00001004] none &&
    runs 0x7D28FE2C [.x 9 0x00002004, .m8 0x2000 0x80] [.x 8 0xFFFFFF80, .pc 0x00001004] none) = true := by decide +kernel

theorem test_run_R496_to_R505 :
    (runs 0x7D28FE28 [.x 9 0x00002004, .m8 0x2000 0x80] [.x 8 0x00000080, .pc 0x00001004] none &&
    runs 0x7D28FE2D [.x 9 0x00002004, .m16 0x2000 0x8001] [.x 8 0xFFFF8001, .pc 0x00001004] none &&
    runs 0x7D28FE29 [.x 9 0x00002004, .m16 0x2000 0x8001] [.x 8 0x00008001, .pc 0x00001004] none &&
    runs 0x7D28FE2F [.x 9 0x00002004, .m32 0x2000 0x80010203] [.x 8 0x80010203, .pc 0x00001004] none &&
    runs 0x7D287F9C [.x 9 0x00002000, .x 8 0xA1B2C3D4, .m32 0x20FF 0x00000000] [.m32 0x20FF 0xD4000000, .pc 0x00001004] none &&
    runs 0x7D287F9D [.x 9 0x00002000, .x 8 0xA1B2C3D4, .m32 0x20FF 0x00000000] [.m32 0x20FF 0xC3D40000, .pc 0x00001004] none &&
    runs 0x7D287F9F [.x 9 0x00002000, .x 8 0xA1B2C3D4, .m32 0x20FF 0x00000000] [.m32 0x20FF 0xA1B2C3D4, .pc 0x00001004] none &&
    runs 0x7D28FE36 [.x 9 0x00002004, .m32 0x2000 0x80010203] [.x 8 0x80010203, .pc 0x00001004] none &&
    runs 0x7D280226 [.x 9 0x00002000, .x 8 0xCAFEF00D, .m32 0x2004 0x00000000] [.m32 0x2004 0xCAFEF00D, .x 8 1, .pc 0x00001004] none &&
    runs 0x7D285076 [.x 9 0x00002000, .m64 0x2000 0x1122334455667788] [.x 8 0x55667788, .x 10 0x11223344, .pc 0x00001004] none) = true := by decide +kernel

theorem test_run_R506_to_R514 :
    (runs 0x7D285066 [.x 9 0x00002000, .x 8 0x55667788, .x 10 0x11223344, .m64 0x2000 0x0000000000000000] [.m64 0x2000 0x1122334455667788, .x 8 1, .x 10 0x11223344, .pc 0x00001004] none &&
    runs 0x7D28FE2E [.x 9 0x00002004, .m32 0x2000 0x80010203] [.x 8 0x80010203, .pc 0x00001004] none &&
    runs 0x7D28021E [.x 9 0x00002000, .x 8 0xCAFEF00D, .m32 0x2004 0x00000000] [.m32 0x2004 0xCAFEF00D, .x 8 1, .pc 0x00001004] none &&
    runs 0x7D28506E [.x 9 0x00002000, .m64 0x2000 0x1122334455667788] [.x 8 0x55667788, .x 10 0x11223344, .pc 0x00001004] none &&
    runs 0x7D28505E [.x 9 0x00002000, .x 8 0x55667788, .x 10 0x11223344, .m64 0x2000 0x0000000000000000] [.m64 0x2000 0x1122334455667788, .x 8 1, .x 10 0x11223344, .pc 0x00001004] none &&
    runs 0xC5220004 [.x 9 0x00002000, .m32 0x2004 0x3FC00000] [.f 2 0x3FC00000, .pc 0x00001004] none &&
    runs 0xE5220004 [.x 9 0x00002000, .f 2 0x3FC00000, .m32 0x2004 0x00000000] [.m32 0x2004 0x3FC00000, .pc 0x00001004] none &&
    runs 0xD5220000 [.x 9 0x00002000, .m64 0x2000 0x400E000000000001] [.f 3 0x400E0000, .f 2 1, .pc 0x00001004] none &&
    runs 0xF5220000 [.x 9 0x00002000, .f 3 0x400E0000, .f 2 1, .m64 0x2000 0x0000000000000000] [.m64 0x2000 0x400E000000000001, .pc 0x00001004] none) = true := by decide +kernel

theorem test_run_R533_to_R542 :
    (runs 0x44081000 [.f 2 0xBFC00000] [.x 8 0xBFC00000, .pc 0x00001004] none &&
    runs 0x44881000 [.x 8 0x3FC00000, .f 3 0x00000077] [.f 2 0x3FC00000, .f 3 0x00000077, .pc 0x00001004] none &&
    runs 0x44681000 [.f 3 0x400E0000, .f 2 1] [.x 8 0x400E0000, .pc 0x00001004] none &&
    runs 0x44E81000 [.x 8 0x400E0000, .f 2 1] [.f 3 0x400E0000, .f 2 1, .pc 0x00001004] none &&
    runs 0x4448F800 [.fcr 31 0x01000003] [.x 8 0x01000003, .pc 0x00001004] none &&
    runs 0x44C8F800 [.x 8 0xFFFFFFFF] [.fcr 31 0xFFFFFFFF, .fcr 25 0, .fcr 26 0, .fcr 28 0, .pc 0x00001004] none &&
    runs 0x48082800 [.c2d 5 0x12345678] [.x 8 0x12345678, .pc 0x00001004] none &&
    runs 0x48882800 [.x 8 0x12345678] [.c2d 5 0x12345678, .pc 0x00001004] none &&
    runs 0x48682000 [.c2d 5 0x12345678] [.x 8 0x12345678, .pc 0x00001004] none &&
    runs 0x48E82000 [.x 8 0x12345678, .c2d 4 9] [.c2d 5 0x12345678, .c2d 4 9, .pc 0x00001004] none) = true := by decide +kernel

theorem test_run_R543_to_R552 :
    (runs 0x48482800 [.c2c 5 0x0000ABCD] [.x 8 0x0000ABCD, .pc 0x00001004] none &&
    runs 0x48C82800 [.x 8 0x0000ABCD] [.c2c 5 0x0000ABCD, .pc 0x00001004] none &&
    runs 0x49484FFC [.x 9 0x00002004, .m32 0x2000 0x01020304] [.c2d 8 0x01020304, .pc 0x00001004] none &&
    runs 0x49684803 [.x 9 0x00002000, .c2d 8 0x01020304, .m32 0x2003 0x00000000] [.m32 0x2003 0x01020304, .pc 0x00001004] none &&
    runs 0x49C84800 [.x 9 0x00002000, .m64 0x2000 0x1122334455667788] [.c2d 9 0x11223344, .c2d 8 0x55667788, .pc 0x00001004] none &&
    runs 0x49E84803 [.x 9 0x00002000, .c2d 9 0x11223344, .c2d 8 0x55667788, .m64 0x2003 0x0000000000000000] [.m64 0x2003 0x1122334455667788, .pc 0x00001004] none &&
    runs 0x49250003 [.c2d 5 2] [.pc 0x00001010] none &&
    runs 0x49A50003 [.c2d 5 2] [.pc 0x00001004] none &&
    runs 0x41454000 [.sx 5 0x600DF00D] [.x 8 0x600DF00D, .pc 0x00001004] none &&
    runs 0x41C82800 [.x 8 0x600DF00D] [.sx 5 0x600DF00D, .pc 0x00001004] none) = true := by decide +kernel

/-! ### The step around an instruction: delay slots, the gate, words without an instruction, refusals -/

/-- JALR reads its target before the slot and the slot sees the link (95_test_vectors.md V43.8; 43_branch_jump.md R193, R201). -/
theorem test_jalr_target_before_slot :
    runs 0x0120F809 [.x 9 0x2000, .m32 0x1004 0x24090007] [.x 9 7, .x 31 0x1008, .pc 0x2000] none = true := by decide +kernel

/-- A condition in the slot keeps the link and leaves pc at addr + 8 (V43.25; 60_exceptions.md R575). -/
theorem test_break_in_slot :
    runs 0x04110002 [.m32 0x1004 0x0000000D] [.x 31 0x1008, .pc 0x1008] (some .breakpoint) = true := by decide +kernel

/-- A jump in the slot loses its pc (V43.26; 43_branch_jump.md R196). -/
theorem test_jump_in_slot :
    runs 0x04110002 [.m32 0x1004 0x08000400] [.x 31 0x1008, .pc 0x100C] none = true := by decide +kernel

/-- A linking call in the slot is refused (V43.24; 43_branch_jump.md R195). -/
theorem test_call_in_slot_refused :
    (match step (ready 0x04110002 [.m32 0x1004 0x0C000400]) with
      | .refused .nestedDelaySlot => true
      | _ => false) = true := by decide +kernel

/-- The closed gate leaves everything as it is (10_state.md R35). -/
theorem test_closed_gate : runs 0x49E84803 [.cop 0b01] [.pc 0x1000, .x 8 0] none = true := by decide +kernel

/-- A word without an instruction advances pc (10_state.md R37). -/
theorem test_unknown_opcode : runs 0xFFFFFFFF [] [.pc 0x1004] (some .unknownOpcode) = true := by decide +kernel

/-- Bytes that are 0 again leave the memory (20_memory.md R53). -/
theorem test_memory_stays_canonical :
    store32 (store32 [] 0xFFFFFFFE#32 0x01020304#32) 0xFFFFFFFF#32 0#32 = [(4294967294, 0x01#8)] := by decide +kernel

/-! ### Witnesses: for each statement with hypotheses, a state and operands that meet them -/

/-- A machine with 16 bytes of memory, x[1] .. x[4] one byte too high for an access of 1, 2, 4, 8 bytes. -/
def small : State :=
  (((((State.resetWith [] 0x0D#32 0#32 0b11#2 { Params.default with memBytes := 16 }).setX 1 16).setX 2 15).setX 3 13).setX 4 9).setX 5 8

/-- ADD traps here. -/
def trapping : State := { base with params := { Params.default with addOverflowTraps := true } }

/-- What a result answers next, in a form that evaluates. -/
def nextHas (r : Result) (p : State → Bool) : Bool :=
  match r with
  | .next t => p t
  | .fault _ => false
  | .refused _ => false

theorem exists_next {r : Result} {p : State → Bool} (h : nextHas r p = true) : ∃ t, r = .next t ∧ p t = true := by
  cases r with
  | next t => exact ⟨t, rfl, h⟩
  | fault _ => cases h
  | refused _ => cases h

theorem witness_DecodeEncodeRoundTrip : wellFormed (.beqc 1 2 0xFFFF) = true ∧ wellFormed (.bnvc 31 31 0) = true := by decide

theorem witness_DecodedInstructionFitsItsRow : decode 0x012A4020#32 = some (.add 8 9 10) := by decide +kernel

theorem witness_UnassignedWordsHaveNoInstruction :
    ((0x4C000000#32).extractLsb' 26 6 = 0x13#6 ∧ (0xFFFFFFFF#32).extractLsb' 26 6 = 0x3F#6) ∧
    ((0x23E0FFFF#32).extractLsb' 26 6 = 0x08#6 ∧ (0x23E0FFFF#32).extractLsb' 16 5 = 0) ∧
    ((0x5C000000#32).extractLsb' 26 6 = 0x17#6 ∧ (0x5C000000#32).extractLsb' 16 5 = 0) ∧
    ((0xD800FFFF#32).extractLsb' 26 6 = 0x36#6 ∧ (0xD800FFFF#32).extractLsb' 16 10 = 0) ∧
    ((0xF8000000#32).extractLsb' 26 6 = 0x3E#6 ∧ (0xF8000000#32).extractLsb' 16 10 = 0) := by decide

/-- The premises of `StepRunsTheDecodedInstruction`. -/
abbrev Fetches (s : State) (i : Instr) : Prop :=
  s.accessible s.pc 4 = true ∧ gateClosed s (load32 s.mem s.pc) = false ∧ decode (load32 s.mem s.pc) = some i

theorem witness_StepRunsTheDecodedInstruction :
    (Fetches (ready 0x012A4020 []) (.add 8 9 10) ∧ hasDelaySlot (.add 8 9 10) = false) ∧
    (Fetches (ready 0x04110002 []) (.bal 2) ∧ hasDelaySlot (.bal 2) = true) := by decide +kernel

/-- The premises of `DelaySlotRunsBeforeTheTransfer` about the two words. -/
abbrev FetchesPair (s : State) (i i' : Instr) : Prop :=
  s.accessible s.pc 4 = true ∧ s.accessible (s.pc + 4#32) 4 = true ∧ decode (load32 s.mem s.pc) = some i ∧
  decode (load32 s.mem (s.pc + 4#32)) = some i' ∧ gateClosed s (load32 s.mem (s.pc + 4#32)) = false ∧ hasDelaySlot i' = false

/-- The slot's instruction in these witnesses: ADDIU x[8], x[0], 42. -/
def slotState (w : Nat) (before : List Entry) : State := ready w (.m32 0x1004 0x2408002A :: before)

theorem witness_DelaySlotRunsBeforeTheTransfer :
    (FetchesPair (slotState 0x04110002 []) (.bal 2) (.addiu 8 0 42) ∧
      0x100C#32 = BitVec.ofInt 32 ((slotState 0x04110002 []).pc.toInt + 4 + 4 * (2#16).toInt)) ∧
    (FetchesPair (slotState 0x0C000400 []) (.jal 0x400) (.addiu 8 0 42) ∧
      0x1000#32 = BitVec.ofNat 32 (((slotState 0x0C000400 []).pc + 4#32).toNat / 2 ^ 28 * 2 ^ 28 + 4 * (0x400#26).toNat)) ∧
    (FetchesPair (slotState 0x0120F809 [.x 9 0x2000]) (.jalr 31 9) (.addiu 8 0 42) ∧
      (slotState 0x0120F809 [.x 9 0x2000]).getX 9 = 0x2000 ∧ ((slotState 0x0120F809 [.x 9 0x2000]).getX 9).toNat % 4 = 0) ∧
    (FetchesPair (slotState 0x05100003 [.x 8 0xFFFFFFFF]) (.bltzal 8 3) (.addiu 8 0 42) ∧
      ((slotState 0x05100003 [.x 8 0xFFFFFFFF]).getX 8).toInt < 0) ∧
    (decode (load32 (ready 0x0120F809 [.x 9 0x2002]).mem 0x1000#32) = some (.jalr 31 9) ∧
      ((ready 0x0120F809 [.x 9 0x2002]).getX 9).toNat % 4 ≠ 0) ∧
    (FetchesPair (slotState 0x05100003 []) (.bltzal 8 3) (.addiu 8 0 42) ∧ ¬ ((slotState 0x05100003 []).getX 8).toInt < 0) := by
  decide +kernel

/-- Its last premise: the slot's instruction answers a next state, and so it may with a condition raised. -/
theorem witness_DelaySlotRunsBeforeTheTransfer_slot (s : State) :
    (∃ u, exec (.addiu 8 0 42) s = .next u) ∧ ∃ u, exec (.brk 0) s = .next u ∧ u.raised = some .breakpoint :=
  ⟨⟨_, rfl⟩, ⟨_, rfl, rfl⟩⟩

theorem witness_NestedDelaySlotIsRefused :
    ((ready 0x04110002 [.m32 0x1004 0x0C000400]).accessible 0x1004#32 4 = true ∧
      decodeIn base.params (load32 (ready 0x04110002 [.m32 0x1004 0x0C000400]).mem 0x1000#32) = some (.bal 2) ∧
      decodeIn base.params (load32 (ready 0x04110002 [.m32 0x1004 0x0C000400]).mem 0x1004#32) = some (.jal 0x400) ∧
      hasDelaySlot (.bal 2) = true ∧ hasDelaySlot (.jal 0x400) = true) ∧
    (decodeIn base.params (load32 (ready 0x0120F809 [.m32 0x1004 0x05100003]).mem 0x1000#32) = some (.jalr 31 9) ∧
      decodeIn base.params (load32 (ready 0x0120F809 [.m32 0x1004 0x05100003]).mem 0x1004#32) = some (.bltzal 8 3) ∧
      ((ready 0x0120F809 [.m32 0x1004 0x05100003]).getX 9).toNat % 4 = 0) := by decide +kernel

theorem witness_ClosedGateChangesNothing :
    let s := ready 0x49E84803 [.cop 0b01]
    s.accessible s.pc 4 = true ∧ (load32 s.mem s.pc).extractLsb' 26 6 = 0x12#6 ∧ s.copBit.getLsbD 1 = false ∧ s.slot = .idle := by
  decide +kernel

theorem witness_UnknownOpcodeChangesPcOnly :
    let s := ready 0xFFFFFFFF []
    s.accessible s.pc 4 = true ∧ gateClosed s (load32 s.mem s.pc) = false ∧ decode (load32 s.mem s.pc) = none ∧
      s.params.decodeFallback = [] ∧ s.slot = .idle := by decide +kernel

theorem witness_UnknownOpcodeChangesPcOnly_uncovered :
    let s := ready 0x20000000 []
    s.accessible s.pc 4 = true ∧ gateClosed s (load32 s.mem s.pc) = false ∧ decode (load32 s.mem s.pc) = none ∧
      uncovered (load32 s.mem s.pc) = true ∧ s.params.decodeFallback = [] := by decide +kernel

theorem witness_ResetValues : (State.resetWith [] 0x0D#32 0#32 0b11#2 { Params.default with memBytes := 16 }).accessible 0x0D#32 4 = false := by
  decide +kernel

theorem witness_EveryStepKeepsTheInvariant : (ready 0x012A4020 []).wf = true ∧ ∃ t, step (ready 0x012A4020 []) = .next t := by
  refine ⟨by decide +kernel, ?_⟩
  obtain ⟨t, h, -⟩ := exists_next (r := step (ready 0x012A4020 [])) (p := fun _ => true) (by decide +kernel)
  exact ⟨t, h⟩

/-- An image whose last byte is the last one of the memory. -/
theorem witness_ResetSatisfiesTheInvariant :
    Memory.wf [(0, 0x01#8), (15, 0xFF#8)] = true ∧ addressesBelow 16 [(0, 0x01#8), (15, 0xFF#8)] = true ∧
    ({ Params.default with memBytes := 16, qnanS := 0xFFFFFFFF#32 } : Params).wf = true := by decide +kernel

theorem witness_AccessOutsideMemoryStops :
    small.accessible small.pc 4 = false ∧ small.accessible (small.ea16 1 0) 1 = false ∧ small.accessible (small.ea16 2 0) 2 = false ∧
    small.accessible (small.ea16 3 0) 4 = false ∧ small.accessible (small.ea9 1 0) 1 = false ∧
    small.accessible (small.ea9 2 0) 2 = false ∧ small.accessible (small.ea9 3 0) 4 = false ∧ small.accessible (small.pcRel19 1) 4 = false ∧
    small.accessible (small.ea11 3 0) 4 = false ∧ small.accessible (small.getX 4) 8 = false ∧
    ((30#5).toNat % 2 = 0 ∧ small.accessible (small.ea16 4 0) 8 = false) ∧ small.accessible (small.ea11 4 0) 8 = false := by
  decide +kernel

theorem witness_AdditionWraps : base.params.addOverflowTraps = false := rfl

theorem witness_CheckedArithmeticRaisesOrWrites :
    let fits (a b : Word) : Prop := -2 ^ 31 ≤ a.toInt - b.toInt ∧ a.toInt - b.toInt ≤ 2 ^ 31 - 1
    let sums (a b : Word) : Prop := -2 ^ 31 ≤ a.toInt + b.toInt ∧ a.toInt + b.toInt ≤ 2 ^ 31 - 1
    let s := (base.setX 1 0x7FFFFFFF#32).setX 2 0x80000000#32
    fits (s.getX 1) (s.getX 0) ∧ fits (s.getX 2) (s.getX 0) ∧ ¬ fits (s.getX 2) 1#32 ∧ ¬ fits (s.getX 1) 0xFFFFFFFF#32 ∧
    trapping.params.addOverflowTraps = true ∧ sums (s.getX 1) (s.getX 0) ∧ sums (s.getX 2) (s.getX 0) ∧ ¬ sums (s.getX 1) 1#32 ∧
    ¬ sums (s.getX 2) 0xFFFFFFFF#32 := by decide +kernel

theorem witness_BitFieldsAreMovedOrRefused :
    (0#5).toNat + (31#5).toNat ≤ 31 ∧ 31 < (1#5).toNat + (31#5).toNat ∧ (31#5).toNat ≤ (31#5).toNat ∧ (30#5).toNat < (31#5).toNat := by
  decide

theorem witness_DivisionGivesQuotientAndRemainder : (base.setX 1 0xFFFFFFFF#32).getX 1 ≠ 0 ∧ base.getX 1 = 0 := by decide +kernel

theorem witness_MovesCopyOneRegister :
    ((30#5).toNat % 2 = 0 ∧ (31#5).toNat = (30#5).toNat + 1) ∧ ((0#5).toNat % 2 = 0 ∧ (1#5).toNat = (0#5).toNat + 1) := by decide

theorem witness_SlotTransfersLinkAndOweTheSlot :
    ((base.setX 9 0xFFFFFFFC#32).getX 9).toNat % 4 = 0 ∧ ((base.setX 9 0x00000001#32).getX 9).toNat % 4 ≠ 0 := by decide +kernel

/-- A state for every clause of every trap: x[1] = x[2] = -1, x[3] = 1, x[0] = 0. -/
theorem witness_TrapsRaiseOnTheirCondition :
    let s := ((base.setX 1 0xFFFFFFFF#32).setX 2 0xFFFFFFFF#32).setX 3 1#32
    ((s.getX 2).toInt ≤ (s.getX 1).toInt ∧ ¬ (s.getX 0).toInt ≤ (s.getX 1).toInt) ∧
    ((s.getX 2).toNat ≤ (s.getX 1).toNat ∧ ¬ (s.getX 1).toNat ≤ (s.getX 3).toNat) ∧
    ((s.getX 1).toInt < (s.getX 0).toInt ∧ ¬ (s.getX 1).toInt < (s.getX 2).toInt) ∧
    ((s.getX 0).toNat < (s.getX 3).toNat ∧ ¬ (s.getX 1).toNat < (s.getX 2).toNat) ∧
    (s.getX 1 = s.getX 2 ∧ s.getX 1 ≠ s.getX 3) := by decide +kernel

/-- In 16 bytes of memory, x[5] = 8: the last accesses that are inside it. -/
theorem witness_LoadsReadMemoryIntoRt :
    small.accessible (small.ea16 5 7) 1 = true ∧ small.accessible (small.ea16 5 6) 2 = true ∧ small.accessible (small.ea16 5 4) 4 = true ∧
    small.accessible ((small.setPc 0x10).pcRel19 0) 4 = true ∧ small.accessible (small.ea9 5 7) 1 = true ∧
    small.accessible (small.ea9 5 6) 2 = true ∧ small.accessible (small.ea9 5 4) 4 = true := by decide +kernel

theorem witness_StoresWriteTheBytesOfRt :
    small.accessible (small.ea16 1 0xFFFF) 1 = true ∧ small.accessible (small.ea16 2 0xFFFF) 2 = true ∧
    small.accessible (small.ea16 3 0xFFFF) 4 = true ∧ small.accessible (small.ea9 1 0x1FF) 1 = true ∧
    small.accessible (small.ea9 2 0x1FF) 2 = true ∧ small.accessible (small.ea9 3 0x1FF) 4 = true := by decide +kernel

theorem witness_ConditionalStoresSucceedAndPairsLoad :
    small.accessible (small.ea9 3 0x1FF) 4 = true ∧ small.accessible (small.getX 5) 8 = true ∧
    (base.setX 1 0xFFFFFFFC#32).accessible ((base.setX 1 0xFFFFFFFC#32).getX 1) 8 = true ∧ (8#5 ≠ 10#5) := by decide +kernel

theorem witness_CoprocessorLoadsAndStores :
    small.accessible (small.ea16 3 0xFFFF) 4 = true ∧ small.accessible (small.ea11 3 0x7FF) 4 = true ∧
    ((30#5).toNat % 2 = 0 ∧ (31#5).toNat = (30#5).toNat + 1 ∧ small.accessible (small.ea16 5 0) 8 = true ∧
      small.accessible (small.ea11 5 0) 8 = true) := by decide +kernel

theorem witness_DoubleArithmeticWritesThePair : (0#5).toNat % 2 = 0 ∧ (2#5).toNat % 2 = 0 ∧ (30#5).toNat % 2 = 0 := by decide

theorem witness_DoubleBitOperationsWriteThePair : (30#5).toNat % 2 = 0 ∧ (0#5).toNat % 2 = 0 ∧ (2#5).toNat % 2 = 0 := by decide

/-- For each of the 22 pairs of clauses the operands decide alone: a NaN in f[2] (S), and numbers. CMP.SUN.S is code 9, CMP.UN.S is 1. -/
theorem witness_SingleComparisonsWriteMasks :
    let s := (base.setF 2 0x7FC00000#32).setF 4 0x3F800000#32
    (9#5).getLsbD 3 = true ∧ (fpIsNaN binary32 (s.getF 2).toNat || fpIsNaN binary32 (s.getF 4).toNat) = true ∧
    (fpIsNaN binary32 (s.getF 4).toNat || fpIsNaN binary32 (s.getF 4).toNat) = false ∧ (1#5).getLsbD 3 = false := by decide +kernel

theorem witness_DoubleComparisonsWriteMasks :
    let s := (base.setD 2 0xFFFFFFFFFFFFFFFF#64).setD 4 0x3FF0000000000000#64
    ((0#5).toNat % 2 = 0 ∧ (2#5).toNat % 2 = 0 ∧ (4#5).toNat % 2 = 0) ∧ (27#5).getLsbD 3 = true ∧
    (fpIsNaN binary64 (s.getF (2 + 1) ++ s.getF 2).toNat || fpIsNaN binary64 (s.getF (4 + 1) ++ s.getF 4).toNat) = true ∧
    (fpIsNaN binary64 (s.getF (4 + 1) ++ s.getF 4).toNat || fpIsNaN binary64 (s.getF (4 + 1) ++ s.getF 4).toNat) = false := by
  decide +kernel

theorem witness_ConversionsToFloatWriteFd : (0#5).toNat % 2 = 0 ∧ (30#5).toNat % 2 = 0 := by decide

theorem witness_ConversionsToIntegerWriteFd : (30#5).toNat % 2 = 0 ∧ (0#5).toNat % 2 = 0 := by decide

theorem witness_OddPairsAreRefused : (1#5).toNat % 2 = 1 ∧ (31#5).toNat % 2 = 1 := by decide

/-- The numbers 1, -1 and 0 of format S and 1 of format D. -/
theorem finite_numbers : binary32.isFinite 0x3F800000 ∧ binary32.isFinite 0xBF800000 ∧ binary32.isFinite 0 ∧
    binary64.isFinite 0x3FF0000000000000 := by
  unfold Format.isFinite Format.width binary32 binary64
  decide

theorem value_one : binary32.value 0x3F800000 = 1 := by simp [Format.value, Format.signBit, binary32, Nat.testBit]
theorem value_minus_one : binary32.value 0xBF800000 = -1 := by simp [Format.value, Format.signBit, binary32, Nat.testBit]
theorem value_zero : binary32.value 0 = 0 := by simp [Format.value, binary32]
theorem value_minus_zero_d : binary64.value 0x8000000000000000 = 0 := by simp [Format.value, binary64]
theorem value_one_d : binary64.value 0x3FF0000000000000 = 1 := by simp [Format.value, Format.signBit, binary64, Nat.testBit]

/-- The products with infinities: infinity times 1, -1 times infinity, infinity times infinity. -/
theorem infinite_products : binary32.InfiniteProduct (binary32.infinity false) 0x3F800000 ∧
    binary32.InfiniteProduct 0xBF800000 (binary32.infinity true) ∧
    binary32.InfiniteProduct (binary32.infinity true) (binary32.infinity false) := by
  refine ⟨.inl ⟨⟨_, rfl⟩, .inr ⟨finite_numbers.1, ?_⟩⟩, .inr ⟨⟨finite_numbers.2.1, ?_⟩, ⟨_, rfl⟩⟩, .inl ⟨⟨_, rfl⟩, .inl ⟨_, rfl⟩⟩⟩
  · rw [value_one]
    norm_num
  · rw [value_minus_one]
    norm_num

theorem witness_AddSubMulRoundOnce :
    (binary32.isFinite 0x3F800000 ∧ binary32.isFinite 0xBF800000 ∧ binary32.isFinite 0) ∧
    binary32.value 0x3F800000 + binary32.value 0x3F800000 ≠ 0 ∧ binary32.value 0x3F800000 + binary32.value 0xBF800000 = 0 ∧
    binary32.value 0x3F800000 - binary32.value 0xBF800000 ≠ 0 ∧ binary32.value 0x3F800000 - binary32.value 0x3F800000 = 0 ∧
    binary32.value 0x3F800000 * binary32.value 0xBF800000 ≠ 0 ∧ binary32.value 0x3F800000 * binary32.value 0 = 0 := by
  refine ⟨⟨finite_numbers.1, finite_numbers.2.1, finite_numbers.2.2.1⟩, ?_⟩
  rw [value_one, value_minus_one, value_zero]
  norm_num

theorem witness_DivSqrtRecipRoundOnce :
    (binary32.isFinite 0x3F800000 ∧ binary32.isFinite 0xBF800000 ∧ binary32.isFinite 0) ∧ binary32.value 0x3F800000 ≠ 0 ∧
    binary32.value 0xBF800000 ≠ 0 ∧ binary32.value 0 = 0 ∧ 0 < binary32.value 0x3F800000 := by
  refine ⟨⟨finite_numbers.1, finite_numbers.2.1, finite_numbers.2.2.1⟩, ?_⟩
  rw [value_one, value_minus_one, value_zero]
  norm_num

theorem witness_FusedOperationsRoundOnce :
    (binary32.isFinite 0x3F800000 ∧ binary32.isFinite 0xBF800000) ∧
    binary32.value 0x3F800000 + binary32.value 0x3F800000 * binary32.value 0x3F800000 ≠ 0 ∧
    binary32.value 0xBF800000 + binary32.value 0x3F800000 * binary32.value 0x3F800000 = 0 ∧
    binary32.value 0xBF800000 - binary32.value 0x3F800000 * binary32.value 0x3F800000 ≠ 0 ∧
    binary32.value 0x3F800000 - binary32.value 0x3F800000 * binary32.value 0x3F800000 = 0 := by
  refine ⟨⟨finite_numbers.1, finite_numbers.2.1⟩, ?_⟩
  rw [value_one, value_minus_one]
  norm_num

theorem witness_ConversionsRoundOnce :
    (binary64.isFinite 0x3FF0000000000000 ∧ binary64.value 0x3FF0000000000000 ≠ 0) ∧
    (binary64.isFinite 0x8000000000000000 ∧ binary64.value 0x8000000000000000 = 0) ∧ binary32.isFinite 0xBF800000 ∧
    (fpIsNaN binary64 0x7FF0000000000001 = true ∧ fpIsNaN binary32 0xFFC00000 = true) ∧ (-1 : Int) ≠ 0 := by
  refine ⟨⟨finite_numbers.2.2.2, ?_⟩, ⟨?_, value_minus_zero_d⟩, finite_numbers.2.1, by decide +kernel, by decide⟩
  · rw [value_one_d]
    norm_num
  · unfold Format.isFinite Format.width binary64
    decide

theorem witness_IntegerConversionsRoundAndClamp :
    binary32.isFinite 0xBF800000 ∧ fpIsNaN binary32 0x7F800001 = true ∧ fpIsNaN binary64 0xFFF8000000000000 = true :=
  ⟨finite_numbers.2.1, by decide +kernel, by decide +kernel⟩

theorem witness_ComparisonsFollowTheValues :
    (0xFFFFFFFF < 2 ^ binary32.width ∧ 0x7F800000 < 2 ^ binary32.width) ∧ (fpIsNaN binary32 0xFFFFFFFF || fpIsNaN binary32 0) = true ∧
    (fpIsNaN binary32 0xFF800000 || fpIsNaN binary32 0x7F800000) = false ∧ (⊥ : EReal) < ⊤ :=
  ⟨by decide +kernel, by decide +kernel, by decide +kernel, bot_lt_top⟩

theorem witness_RintAndMagnitudeSelections :
    (binary32.isFinite 0 ∧ binary32.isFinite 0x3F800000 ∧ binary32.isFinite 0xBF800000) ∧
    |binary32.value 0| < |binary32.value 0x3F800000| ∧ |binary32.value 0x3F800000| = |binary32.value 0xBF800000| := by
  refine ⟨⟨finite_numbers.2.2.1, finite_numbers.1, finite_numbers.2.1⟩, ?_⟩
  rw [value_one, value_minus_one, value_zero]
  norm_num

/-- The clauses on infinite products have their witness in `infinite_products`. -/
theorem witness_NaNsAndInvalidOperations :
    (fpIsNaN binary32 0x7FC00000 = true ∧ fpIsNaN binary32 0xFF800001 = true ∧ fpIsNaN binary32 0x3F800000 = false) ∧
    (0xFF800000 = binary32.infinity true ∧ 0x80000000 = binary32.zero true) ∧
    (binary32.isFinite 0xBF800000 ∧ binary32.isFinite 0x3F800000) ∧ binary32.value 0xBF800000 < 0 := by
  refine ⟨by decide +kernel, by decide +kernel, ⟨finite_numbers.2.1, finite_numbers.1⟩, ?_⟩
  rw [value_minus_one]
  norm_num

/-- An instruction and a state for each condition that an instruction can raise; `exec` raises no UnknownOpcode. -/
theorem witness_OnlyTheNamedInstructionsRaise :
    let raises (i : Instr) (s : State) (c : Condition) : Bool := s.raised == none && nextHas (exec i s) fun t => t.raised == some c
    raises (.brk 0) base .breakpoint && raises (.syscall 0) base .syscall && raises (.sdbbp 0) base .debugBreakpoint &&
    raises (.sigrie 0 0) base .reservedInstruction && raises (.teq 0 0 0) base .trap &&
    raises (.jalr 31 1) (base.setX 1 2) .addressError && raises (.sub 1 2 3) ((base.setX 2 0x80000000).setX 3 1) .integerOverflow &&
    raises (.add 1 2 2) (trapping.setX 2 0x80000000) .integerOverflow &&
    raises (.cmpSneS 0 2 4) (base.setF 2 0x7FC00000) .invalidFloatingPointOperation &&
    raises (.cmpSafD 0 2 4) (base.setF 3 0xFFFFFFFF) .invalidFloatingPointOperation = true := by decide +kernel

/-- An instruction and a state for each file that the statement names. -/
theorem witness_SpecialStateHasNamedWriters :
    let s := (base.setX 1 0x100).setX 2 7
    nextHas (exec (.ctc1 2 3) s) (fun t => decide (t.fcr ≠ s.fcr)) && nextHas (exec (.ctc2 2 3) s) (fun t => decide (t.c2c ≠ s.c2c)) &&
    nextHas (exec (.wrpgpr 3 2) s) (fun t => decide (t.sx ≠ s.sx)) && nextHas (exec (.mtc2 2 3) s) (fun t => decide (t.c2d ≠ s.c2d)) &&
    nextHas (exec (.mthi 2) s) (fun t => decide (t.hi ≠ s.hi)) && nextHas (exec (.mult 2 2) s) (fun t => decide (t.lo ≠ s.lo)) &&
    nextHas (exec (.scwpe 2 1 1) s) (fun t => decide (t.mem ≠ s.mem)) = true := by decide +kernel

end Sys2Proof.Tests
end

namespace Sys2Proof.Machine

/-! ### The invariant at reset -/

/-- The invariant by its four parts: canonical memory, memory inside MEM_BYTES, parameters as R6 asks, no delay slot owed. -/
theorem State.wf_iff (s : State) :
    s.wf = true ↔
      s.mem.wf = true ∧ addressesBelow s.params.memBytes s.mem = true ∧ s.params.wf = true ∧ s.slot = .idle := by
  simp [State.wf, and_assoc]

/-- The default parameters of R6 meet what R6 and R252 require. -/
theorem Params.wf_default : Params.default.wf = true := by decide

/-- Reset owes no delay slot and takes memory and parameters as supplied, so it asks of them just what the invariant does; pc, sp
and COP_ENABLE are free (R590). -/
theorem State.wf_resetWith_iff (m : Memory) (pc sp : Word) (cop : BitVec 2) (p : Params) :
    (State.resetWith m pc sp cop p).wf = true ↔ m.wf = true ∧ addressesBelow p.memBytes m = true ∧ p.wf = true := by
  rw [State.wf_iff]
  have hslot : (State.resetWith m pc sp cop p).slot = .idle := rfl
  exact ⟨fun ⟨hmem, hbelow, hparams, _⟩ => ⟨hmem, hbelow, hparams⟩,
    fun ⟨hmem, hbelow, hparams⟩ => ⟨hmem, hbelow, hparams, hslot⟩⟩

/-- The reset state of `Config`: the empty image and the default parameters. -/
theorem State.wf_reset : State.reset.wf = true :=
  (State.wf_resetWith_iff ..).2 ⟨wf_reset_mem, rfl, Params.wf_default⟩

/-- Settles O13: what reset asks of its inputs is what they are supposed to meet. -/
theorem resetSatisfiesTheInvariant : Obligations.ResetSatisfiesTheInvariant := by
  refine ⟨State.wf_reset, fun m pc sp cop p hmem hbelow hparams => ?_⟩
  exact (State.wf_resetWith_iff m pc sp cop p).2 ⟨hmem, hbelow, hparams⟩

end Sys2Proof.Machine

namespace Sys2Proof.Machine

/-! ### What an instruction can do

`Effect` says once, for all 295 instructions, what may differ in the state after a meaning. The statements about every instruction
and about the step are read off its eleven cases; none of them splits the instructions again. -/

/-- Two states agree everywhere but in x, f and pc; the counter of free values is left out too. -/
structure OnlyRegisters (s t : State) : Prop where
  hi : t.hi = s.hi
  lo : t.lo = s.lo
  fcr : t.fcr = s.fcr
  c2d : t.c2d = s.c2d
  c2c : t.c2c = s.c2c
  sx : t.sx = s.sx
  copBit : t.copBit = s.copBit
  mem : t.mem = s.mem
  params : t.params = s.params
  raised : t.raised = s.raised
  slot : t.slot = s.slot

section Updates
variable (s : State)

theorem OnlyRegisters.refl : OnlyRegisters s s := ⟨rfl, rfl, rfl, rfl, rfl, rfl, rfl, rfl, rfl, rfl, rfl⟩
theorem onlyRegisters_setX (r : Reg) (v : Word) : OnlyRegisters s (s.setX r v) :=
  ⟨rfl, rfl, rfl, rfl, rfl, rfl, rfl, rfl, rfl, rfl, rfl⟩
theorem onlyRegisters_setF (r : Reg) (v : Word) : OnlyRegisters s (s.setF r v) :=
  ⟨rfl, rfl, rfl, rfl, rfl, rfl, rfl, rfl, rfl, rfl, rfl⟩
theorem onlyRegisters_setD (r : Reg) (v : DWord) : OnlyRegisters s (s.setD r v) :=
  ⟨rfl, rfl, rfl, rfl, rfl, rfl, rfl, rfl, rfl, rfl, rfl⟩
theorem onlyRegisters_setPc (v : Word) : OnlyRegisters s (s.setPc v) :=
  ⟨rfl, rfl, rfl, rfl, rfl, rfl, rfl, rfl, rfl, rfl, rfl⟩
theorem onlyRegisters_draw : OnlyRegisters s s.draw := ⟨rfl, rfl, rfl, rfl, rfl, rfl, rfl, rfl, rfl, rfl, rfl⟩

/-- Changes of registers in a row. -/
theorem OnlyRegisters.trans {s t u : State} (h : OnlyRegisters s t) (k : OnlyRegisters t u) : OnlyRegisters s u :=
  ⟨k.hi.trans h.hi, k.lo.trans h.lo, k.fcr.trans h.fcr, k.c2d.trans h.c2d, k.c2c.trans h.c2c, k.sx.trans h.sx,
    k.copBit.trans h.copBit, k.mem.trans h.mem, k.params.trans h.params, k.raised.trans h.raised, k.slot.trans h.slot⟩

theorem onlyRegisters_putS (fd : Reg) (r : FpResult) : OnlyRegisters s (putS fd r s) := by
  obtain ⟨v, h | h⟩ := putS_cases fd r s <;> rw [h]
  · exact onlyRegisters_setF s fd v
  · exact (onlyRegisters_setF s fd v).trans (onlyRegisters_draw _)

theorem onlyRegisters_putD (fd : Reg) (r : FpResult) : OnlyRegisters s (putD fd r s) := by
  obtain ⟨v, h | h⟩ := putD_cases fd r s <;> rw [h]
  · exact onlyRegisters_setD s fd v
  · exact (onlyRegisters_setD s fd v).trans (onlyRegisters_draw _)

end Updates

section Operations
variable {s t u : State}

theorem onlyRegisters_of_next (hu : OnlyRegisters s u) (h : (.next u : Result) = .next t) : OnlyRegisters s t := by
  obtain rfl := Host.Outcome.next.inj h
  exact hu

theorem onlyRegisters_of_onPairs {even : Bool} (hu : OnlyRegisters s u) (h : onPairs even (.next u) = .next t) :
    OnlyRegisters s t := onlyRegisters_of_next hu (onPairs_next.1 h).2

theorem onlyRegisters_of_branchIf {c : Bool} {a : Word} (h : branchIf c a s = .next t) : OnlyRegisters s t := by
  obtain rfl := branchIf_next.1 h
  cases c
  · exact .refl s
  · exact onlyRegisters_setPc s a

theorem onlyRegisters_of_linkBranchIf {l a : Word} {c : Bool} (h : linkBranchIf l c a s = .next t) : OnlyRegisters s t :=
  (onlyRegisters_setX s linkReg l).trans (onlyRegisters_of_branchIf h)

theorem onlyRegisters_of_divideReg {op : Word → Word → Word} {rd rs rt : Reg} (h : divideReg op rd rs rt s = .next t) :
    OnlyRegisters s t := by
  obtain rfl := divideReg_next.1 h
  split
  · exact (onlyRegisters_setX s rd _).trans (onlyRegisters_draw _)
  · exact onlyRegisters_setX s rd _

theorem onlyRegisters_of_loadByte {a : Word} {k : Byte → State} (h : loadByte a s k = .next t)
    (hk : ∀ v, OnlyRegisters s (k v)) : OnlyRegisters s t := (loadByte_next.1 h).2 ▸ hk _
theorem onlyRegisters_of_loadHalf {a : Word} {k : Half → State} (h : loadHalf a s k = .next t)
    (hk : ∀ v, OnlyRegisters s (k v)) : OnlyRegisters s t := (loadHalf_next.1 h).2 ▸ hk _
theorem onlyRegisters_of_loadWord {a : Word} {k : Word → State} (h : loadWord a s k = .next t)
    (hk : ∀ v, OnlyRegisters s (k v)) : OnlyRegisters s t := (loadWord_next.1 h).2 ▸ hk _
theorem onlyRegisters_of_loadDouble {a : Word} {k : DWord → State} (h : loadDouble a s k = .next t)
    (hk : ∀ v, OnlyRegisters s (k v)) : OnlyRegisters s t := (loadDouble_next.1 h).2 ▸ hk _

end Operations

/-- A memory that one store of 1, 2, 4 or 8 bytes inside MEM_BYTES leaves (R53, R57). -/
inductive Stored (s : State) : Memory → Prop where
  | byte (a : Word) (v : Byte) (h : s.accessible a 1 = true) : Stored s (store8 s.mem a v)
  | half (a : Word) (v : Half) (h : s.accessible a 2 = true) : Stored s (store16 s.mem a v)
  | word (a : Word) (v : Word) (h : s.accessible a 4 = true) : Stored s (store32 s.mem a v)
  | double (a : Word) (v : DWord) (h : s.accessible a 8 = true) : Stored s (store64 s.mem a v)

/-- A store keeps the canonical form. -/
theorem Stored.wf {s : State} {m : Memory} (h : Stored s m) (hm : s.mem.wf = true) : m.wf = true := by
  cases h with
  | byte a v _ => exact wf_store8 a v hm
  | half a v _ => exact wf_store16 a v hm
  | word a v _ => exact wf_store32 a v hm
  | double a v _ => exact wf_store64 a v hm

/-- A store stays below MEM_BYTES (R57). -/
theorem Stored.below {s : State} {m : Memory} (h : Stored s m) (hm : addressesBelow s.params.memBytes s.mem = true) :
    addressesBelow s.params.memBytes m = true := by
  cases h with
  | byte a v ha => exact addressesBelow_store8 v (by simpa using (s.accessible_iff a 1).1 ha 0 (by decide)) hm
  | half a v ha => exact addressesBelow_store16 v ((s.accessible_iff a 2).1 ha) hm
  | word a v ha => exact addressesBelow_store32 v ((s.accessible_iff a 4).1 ha) hm
  | double a v ha => exact addressesBelow_store64 v ((s.accessible_iff a 8).1 ha) hm

/-- The state after a store: its memory, and perhaps a register that reports success (R485). -/
def AfterStore (s t : State) : Prop := ∃ m, Stored s m ∧ OnlyRegisters (s.setMem m) t

section Stores
variable {s t : State} {a : Word}

theorem afterStore_of_storeByte {v : Byte} (h : storeByte a v s = .next t) : AfterStore s t := by
  obtain ⟨ha, rfl⟩ := storeByte_next.1 h
  exact ⟨_, .byte a v ha, .refl _⟩
theorem afterStore_of_storeHalf {v : Half} (h : storeHalf a v s = .next t) : AfterStore s t := by
  obtain ⟨ha, rfl⟩ := storeHalf_next.1 h
  exact ⟨_, .half a v ha, .refl _⟩
theorem afterStore_of_storeWord {v : Word} (h : storeWord a v s = .next t) : AfterStore s t := by
  obtain ⟨ha, rfl⟩ := storeWord_next.1 h
  exact ⟨_, .word a v ha, .refl _⟩
theorem afterStore_of_storeDouble {v : DWord} (h : storeDouble a v s = .next t) : AfterStore s t := by
  obtain ⟨ha, rfl⟩ := storeDouble_next.1 h
  exact ⟨_, .double a v ha, .refl _⟩
theorem afterStore_of_storeWordThenOne {v : Word} {rt : Reg} (h : storeWordThenOne a v rt s = .next t) : AfterStore s t := by
  obtain ⟨ha, rfl⟩ := storeWordThenOne_next.1 h
  exact ⟨_, .word a v ha, onlyRegisters_setX _ rt _⟩
theorem afterStore_of_storeDoubleThenOne {v : DWord} {rt : Reg} (h : storeDoubleThenOne a v rt s = .next t) :
    AfterStore s t := by
  obtain ⟨ha, rfl⟩ := storeDoubleThenOne_next.1 h
  exact ⟨_, .double a v ha, onlyRegisters_setX _ rt _⟩

end Stores

/-! The instructions that do more than write x, f and pc. -/

/-- The writers of HI and LO (R165). -/
def accumulatorWriters (r q : Reg) : List Instr :=
  [.mult r q, .multu r q, .div r q, .divu r q, .madd r q, .maddu r q, .msub r q, .msubu r q, .mthi r, .mtlo r]

/-- The stores, by the operands that any of them takes (R56). Not compiled, for the number of constructors: see Decode.lean. -/
noncomputable def storeInstrs (r q b : Reg) (o : Half) (o9 : BitVec 9) (o11 : BitVec 11) : List Instr :=
  [.sb r b o, .sbe r b o9, .sh r b o, .she r b o9, .sw r b o, .swe r b o9, .sc r b o9, .sce r b o9, .swc1 r b o, .swc2 r b o11,
    .sdc1 r b o, .sdc2 r b o11, .scwp r q b, .scwpe r q b]

/-- The conditional traps (R567). -/
def trapInstrs (r q : Reg) (code : BitVec 10) : List Instr :=
  [.tge r q code, .tgeu r q code, .tlt r q code, .tltu r q code, .teq r q code, .tne r q code]

/-- The signalling comparisons of format S (R321). -/
def signallingS (r p q : Reg) : List Instr :=
  [.cmpSafS r p q, .cmpSunS r p q, .cmpSeqS r p q, .cmpSueqS r p q, .cmpSltS r p q, .cmpSultS r p q, .cmpSleS r p q,
    .cmpSuleS r p q, .cmpSorS r p q, .cmpSuneS r p q, .cmpSneS r p q]

/-- The signalling comparisons of format D (R321). -/
def signallingD (r p q : Reg) : List Instr :=
  [.cmpSafD r p q, .cmpSunD r p q, .cmpSeqD r p q, .cmpSueqD r p q, .cmpSltD r p q, .cmpSultD r p q, .cmpSleD r p q,
    .cmpSuleD r p q, .cmpSorD r p q, .cmpSuneD r p q, .cmpSneD r p q]

/-- The instructions that may raise a condition and then leave everything else as it was (R561). -/
inductive Raises (s : State) : Instr → Condition → Prop where
  | breakpoint (code : BitVec 20) : Raises s (.brk code) .breakpoint
  | syscall (code : BitVec 20) : Raises s (.syscall code) .syscall
  | debugBreakpoint (code : BitVec 20) : Raises s (.sdbbp code) .debugBreakpoint
  | reservedInstruction (r : Reg) (imm : Half) : Raises s (.sigrie r imm) .reservedInstruction
  | trap {i : Instr} {r q : Reg} {code : BitVec 10} (hi : i ∈ trapInstrs r q code) : Raises s i .trap
  | addressError (r q : Reg) : Raises s (.jalr r q) .addressError
  | subOverflow (r p q : Reg) : Raises s (.sub r p q) .integerOverflow
  | addOverflow (r p q : Reg) (h : s.params.addOverflowTraps = true) : Raises s (.add r p q) .integerOverflow

/-- What an instruction that completes has done. -/
inductive Effect (s : State) : Instr → State → Prop where
  /-- It wrote registers of x and f, or pc, or nothing. -/
  | registers {i : Instr} {t : State} (h : OnlyRegisters s t) : Effect s i t
  /-- It wrote HI or LO. -/
  | accumulator {i : Instr} {t : State} (r q : Reg) (a b : Word) (h : OnlyRegisters ((s.setHi a).setLo b) t)
      (hi : i ∈ accumulatorWriters r q) : Effect s i t
  /-- It wrote an FPU control register. -/
  | fpuControl (r q : Reg) (v : Word) : Effect s (.ctc1 r q) (s.setFcr q v)
  /-- It wrote a COP2 control register. -/
  | cop2Control (r q : Reg) (v : Word) : Effect s (.ctc2 r q) (s.setC2c q v)
  /-- It wrote a shadow register. -/
  | shadow (r q : Reg) (v : Word) : Effect s (.wrpgpr r q) (s.setSx r v)
  /-- It wrote COP2 data registers. -/
  | cop2Data {i : Instr} (r q : Reg) (o : BitVec 11) (g : RegFile)
      (hi : i = .mtc2 r q ∨ i = .mthc2 r q ∨ i = .lwc2 r q o ∨ i = .ldc2 r q o) : Effect s i { s with c2d := g }
  /-- It stored. -/
  | store {i : Instr} {t : State} (r q b : Reg) (o : Half) (o9 : BitVec 9) (o11 : BitVec 11) (h : AfterStore s t)
      (hi : i ∈ storeInstrs r q b o o9 o11) : Effect s i t
  /-- It wrote a link and left a delay slot owed. -/
  | owesSlot {i : Instr} (r : Reg) (d : DelaySlot) (hi : hasDelaySlot i = true) (hd : d ≠ .idle) :
      Effect s i ((s.setX r s.link8).setSlot d)
  /-- It raised a condition and wrote nothing. -/
  | raises {i : Instr} {c : Condition} (h : Raises s i c) : Effect s i (s.raise c)
  /-- It wrote the mask of a comparison of format S and raised. -/
  | signalsS {i : Instr} {r p q : Reg} (v : Word) (hi : i ∈ signallingS r p q) :
      Effect s i ((s.setF r v).raise .invalidFloatingPointOperation)
  /-- It wrote the mask of a comparison of format D and raised. -/
  | signalsD {i : Instr} {r p q : Reg} (v : DWord) (hi : i ∈ signallingD r p q) :
      Effect s i ((s.setD r v).raise .invalidFloatingPointOperation)

section Operations
variable {s t : State} {i : Instr}

theorem effect_of_divideAcc {quot rem : Word → Word → Word} {rs rt r q : Reg} (h : divideAcc quot rem rs rt s = .next t)
    (hi : i ∈ accumulatorWriters r q) : Effect s i t := by
  obtain rfl := divideAcc_next.1 h
  split
  · exact .accumulator r q s.draw.freeWord s.freeWord ((onlyRegisters_draw _).trans (onlyRegisters_draw _)) hi
  · exact .accumulator r q _ _ (.refl _) hi

theorem effect_of_linkWithSlot {r : Reg} {c : Bool} {a : Word} (h : linkWithSlot r c a s = .next t)
    (hi : hasDelaySlot i = true) : Effect s i t := by
  obtain rfl := linkWithSlot_next.1 h
  exact .owesSlot r _ hi (by cases c <;> simp)

theorem effect_of_raise {c : Condition} (h : (.next (s.raise c) : Result) = .next t) (hi : Raises s i c) : Effect s i t := by
  obtain rfl := Host.Outcome.next.inj h
  exact .raises hi

theorem effect_of_trapIf {c : Bool} (h : trapIf c s = .next t) (hi : Raises s i .trap) : Effect s i t := by
  obtain rfl := trapIf_next.1 h
  cases c
  · exact .registers (.refl s)
  · exact .raises hi

/-- A comparison of format S whose code has bit 3 clear raises nothing (R321). -/
theorem onlyRegisters_of_compareS {cond : BitVec 5} {fd fs ft : Reg} (h : compareS cond fd fs ft s = .next t)
    (hc : fpSignalling cond = false) : OnlyRegisters s t := by
  simp only [compareS, hc, Bool.false_and] at h
  exact onlyRegisters_of_next (onlyRegisters_setF s fd _) h

/-- A comparison of format D whose code has bit 3 clear raises nothing (R321). -/
theorem onlyRegisters_of_compareD {cond : BitVec 5} {fd fs ft : Reg} (h : compareD cond fd fs ft s = .next t)
    (hc : fpSignalling cond = false) : OnlyRegisters s t := by
  simp only [compareD, hc, Bool.false_and] at h
  exact onlyRegisters_of_onPairs (onlyRegisters_setD s fd _) h

theorem effect_of_compareS {cond : BitVec 5} {fd fs ft : Reg} (h : compareS cond fd fs ft s = .next t)
    (hi : i ∈ signallingS fd fs ft) : Effect s i t := by
  obtain rfl := Host.Outcome.next.inj h
  unfold signalIf
  split
  · exact .signalsS _ hi
  · exact .registers (onlyRegisters_setF s fd _)

theorem effect_of_compareD {cond : BitVec 5} {fd fs ft : Reg} (h : compareD cond fd fs ft s = .next t)
    (hi : i ∈ signallingD fd fs ft) : Effect s i t := by
  obtain rfl := Host.Outcome.next.inj (onPairs_next.1 h).2
  unfold signalIf
  split
  · exact .signalsD _ hi
  · exact .registers (onlyRegisters_setD s fd _)

end Operations

/-- The one case split over the instructions: a completed instruction has one of the effects, grouped by the operation that its
meaning is written with. -/
theorem exec_effect {i : Instr} {s t : State} (h : exec i s = .next t) : Effect s i t := by
  cases i with
  -- One general register, computed from the state.
  | addu | subu | addiu | and | or | xor | nor | andi | ori | xori | slt | sltu | slti | sltiu | lui | aui | seleqz | selnez |
    clz | clo | seb | seh | wsbh | bitswap | align | lsa | addiupc | auipc | aluipc | sll | srl | sra | sllv | srlv | srav |
    rotr | rotrv | mfhi | mflo | mul | muh | mulu | muhu | nal | mfc1 | cfc1 | mfc2 | cfc2 | rdpgpr =>
    exact .registers (onlyRegisters_of_next (onlyRegisters_setX s _ _) h)
  | add rd rs rt =>
    change (if _ then _ else _) = _ at h
    split at h
    case isTrue htrap => exact effect_of_raise h (.addOverflow rd rs rt (Bool.and_eq_true_iff.1 htrap).1)
    case isFalse => exact .registers (onlyRegisters_of_next (onlyRegisters_setX s rd _) h)
  | sub rd rs rt =>
    change (if _ then _ else _) = _ at h
    split at h
    · exact effect_of_raise h (.subOverflow rd rs rt)
    · exact .registers (onlyRegisters_of_next (onlyRegisters_setX s rd _) h)
  | ext | ins =>
    change (if _ then _ else _) = _ at h
    split at h
    · exact .registers (onlyRegisters_of_next (onlyRegisters_setX s _ _) h)
    · cases h
  | divR6 | mod | divuR6 | modu =>
    exact .registers (onlyRegisters_of_divideReg h)
  -- HI and LO.
  | mult rs rt | multu rs rt | madd rs rt | maddu rs rt | msub rs rt | msubu rs rt =>
    exact .accumulator rs rt _ _ (onlyRegisters_of_next (.refl _) h) (by simp [accumulatorWriters])
  | mthi rs =>
    exact .accumulator rs 0 (s.getX rs) s.lo (onlyRegisters_of_next (.refl _) h) (by simp [accumulatorWriters])
  | mtlo rs =>
    exact .accumulator rs 0 s.hi (s.getX rs) (onlyRegisters_of_next (.refl _) h) (by simp [accumulatorWriters])
  | div rs rt | divu rs rt => exact effect_of_divideAcc h (r := rs) (q := rt) (by simp [accumulatorWriters])
  -- Control transfers.
  | j | jr | beq | bne | blez | bgtz | bltz | bgez | bc | beqc | bnec | bltc | bgec | bltuc | bgeuc | blezc | bgezc | bgtzc |
    bltzc | beqzc | bnezc | bovc | bnvc | jic | bc1eqz | bc1nez | bc2eqz | bc2nez =>
    exact .registers (onlyRegisters_of_branchIf h)
  | bgezal | balc | blezalc | bgezalc | bgtzalc | bltzalc | beqzalc | bnezalc | jialc =>
    exact .registers (onlyRegisters_of_linkBranchIf h)
  | jal | bltzal | bal =>
    exact effect_of_linkWithSlot h rfl
  | jalr rd rs =>
    change (if _ then _ else _) = _ at h
    split at h
    · exact effect_of_linkWithSlot h rfl
    · exact effect_of_raise h (.addressError rd rs)
  -- Floating point.
  | addS | subS | mulS | divS | minS | minaS | maxS | maxaS | sqrtS | recipS | rsqrtS | rintS | maddfS | msubfS | cvtSW =>
    exact .registers (onlyRegisters_of_next (onlyRegisters_putS s _ _) h)
  | cvtSD | cvtSL =>
    exact .registers (onlyRegisters_of_onPairs (onlyRegisters_putS s _ _) h)
  | addD | subD | mulD | divD | minD | minaD | maxD | maxaD | sqrtD | recipD | rsqrtD | rintD | maddfD | msubfD | cvtDS |
    cvtDW | cvtDL =>
    exact .registers (onlyRegisters_of_onPairs (onlyRegisters_putD s _ _) h)
  | absS | movS | negS | classS | selS | seleqzS | selnezS | cvtWS | roundWS | truncWS | ceilWS | floorWS | mtc1 =>
    exact .registers (onlyRegisters_of_next (onlyRegisters_setF s _ _) h)
  | cvtWD | roundWD | truncWD | ceilWD | floorWD | mthc1 =>
    exact .registers (onlyRegisters_of_onPairs (onlyRegisters_setF s _ _) h)
  | absD | movD | negD | classD | selD | seleqzD | selnezD | cvtLS | roundLS | truncLS | ceilLS | floorLS | cvtLD | roundLD |
    truncLD | ceilLD | floorLD =>
    exact .registers (onlyRegisters_of_onPairs (onlyRegisters_setD s _ _) h)
  | cmpAfS | cmpUnS | cmpLtS | cmpUltS | cmpOrS | cmpEqS | cmpUeqS | cmpLeS | cmpUleS | cmpUneS | cmpNeS =>
    exact .registers (onlyRegisters_of_compareS h rfl)
  | cmpAfD | cmpUnD | cmpLtD | cmpUltD | cmpOrD | cmpEqD | cmpUeqD | cmpLeD | cmpUleD | cmpUneD | cmpNeD =>
    exact .registers (onlyRegisters_of_compareD h rfl)
  | cmpSafS | cmpSunS | cmpSltS | cmpSultS | cmpSorS | cmpSeqS | cmpSueqS | cmpSleS | cmpSuleS | cmpSuneS | cmpSneS =>
    exact effect_of_compareS h (by simp [signallingS])
  | cmpSafD | cmpSunD | cmpSltD | cmpSultD | cmpSorD | cmpSeqD | cmpSueqD | cmpSleD | cmpSuleD | cmpSuneD | cmpSneD =>
    exact effect_of_compareD h (by simp [signallingD])
  -- Traps, fatal conditions and no-operations.
  | tge rs rt code | tgeu rs rt code | tlt rs rt code | tltu rs rt code | teq rs rt code | tne rs rt code =>
    exact effect_of_trapIf h (.trap (r := rs) (q := rt) (code := code) (by simp [trapInstrs]))
  | brk code => exact effect_of_raise h (.breakpoint code)
  | syscall code => exact effect_of_raise h (.syscall code)
  | sdbbp code => exact effect_of_raise h (.debugBreakpoint code)
  | sigrie r imm => exact effect_of_raise h (.reservedInstruction r imm)
  | sync | synci | pref | prefe | cache | cachee | ginvi | ginvt | rdhwr | eret | eretnc | deret | di | ei | dvp | evp | wait
    | tlbr | tlbwi | tlbinv | tlbinvf | tlbwr | tlbp =>
    exact .registers (onlyRegisters_of_next (.refl s) h)
  -- Loads.
  | lb rt | lbe rt =>
    exact .registers (onlyRegisters_of_loadByte (k := fun v => s.setX rt (v.signExtend 32)) h fun _ => onlyRegisters_setX s rt _)
  | lbu rt | lbue rt =>
    exact .registers (onlyRegisters_of_loadByte (k := fun v => s.setX rt (v.setWidth 32)) h fun _ => onlyRegisters_setX s rt _)
  | lh rt | lhe rt =>
    exact .registers (onlyRegisters_of_loadHalf (k := fun v => s.setX rt (v.signExtend 32)) h fun _ => onlyRegisters_setX s rt _)
  | lhu rt | lhue rt =>
    exact .registers (onlyRegisters_of_loadHalf (k := fun v => s.setX rt (v.setWidth 32)) h fun _ => onlyRegisters_setX s rt _)
  | lw | lwpc | lwe | ll | lle =>
    exact .registers (onlyRegisters_of_loadWord h fun _ => onlyRegisters_setX s _ _)
  | lwc1 =>
    exact .registers (onlyRegisters_of_loadWord h fun _ => onlyRegisters_setF s _ _)
  | ldc1 =>
    exact .registers (onlyRegisters_of_loadDouble (onPairs_next.1 h).2 fun _ => onlyRegisters_setD s _ _)
  | llwp rt rd | llwpe rt rd =>
    exact .registers (onlyRegisters_of_loadDouble
      (k := fun v => (s.setX rt (v.extractLsb' 0 32)).setX rd (v.extractLsb' 32 32)) h
      fun _ => (onlyRegisters_setX s rt _).trans (onlyRegisters_setX _ rd _))
  -- Stores.
  | sb r b o =>
    exact .store r 0 b o 0 0 (afterStore_of_storeByte h) (by simp [storeInstrs])
  | sbe r b o9 =>
    exact .store r 0 b 0 o9 0 (afterStore_of_storeByte h) (by simp [storeInstrs])
  | sh r b o =>
    exact .store r 0 b o 0 0 (afterStore_of_storeHalf h) (by simp [storeInstrs])
  | she r b o9 =>
    exact .store r 0 b 0 o9 0 (afterStore_of_storeHalf h) (by simp [storeInstrs])
  | sw r b o | swc1 r b o =>
    exact .store r 0 b o 0 0 (afterStore_of_storeWord h) (by simp [storeInstrs])
  | swe r b o9 =>
    exact .store r 0 b 0 o9 0 (afterStore_of_storeWord h) (by simp [storeInstrs])
  | swc2 r b o11 =>
    exact .store r 0 b 0 0 o11 (afterStore_of_storeWord h) (by simp [storeInstrs])
  | sc r b o9 | sce r b o9 =>
    exact .store r 0 b 0 o9 0 (afterStore_of_storeWordThenOne h) (by simp [storeInstrs])
  | scwp r q b | scwpe r q b =>
    exact .store r q b 0 0 0 (afterStore_of_storeDoubleThenOne h) (by simp [storeInstrs])
  | sdc1 r b o =>
    exact .store r 0 b o 0 0 (afterStore_of_storeDouble (onPairs_next.1 h).2) (by simp [storeInstrs])
  | sdc2 r b o11 =>
    exact .store r 0 b 0 0 o11 (afterStore_of_storeDouble (onPairs_next.1 h).2) (by simp [storeInstrs])
  -- Moves between the files.
  | mfhc1 | mfhc2 =>
    exact .registers (onlyRegisters_of_onPairs (onlyRegisters_setX s _ _) h)
  | ctc1 r q => cases h; exact .fpuControl r q _
  | ctc2 r q => cases h; exact .cop2Control r q _
  | wrpgpr r q => cases h; exact .shadow r q _
  | mtc2 r q => cases h; exact .cop2Data r q 0 _ (by simp)
  | mthc2 r q =>
    obtain ⟨-, h⟩ := onPairs_next.1 h
    cases h
    exact .cop2Data r q 0 _ (by simp)
  | lwc2 r b o =>
    obtain ⟨-, rfl⟩ := loadWord_next.1 h
    exact .cop2Data r b o _ (by simp)
  | ldc2 r b o =>
    obtain ⟨-, rfl⟩ := loadDouble_next.1 (onPairs_next.1 h).2
    exact .cop2Data r b o _ (by simp)

/-! ### What an effect leaves -/

section Effects
variable {s t : State} {i : Instr}

/-- What every effect keeps: copBit and the parameters as they are, the memory canonical and below MEM_BYTES. -/
structure KeepsMemory (s t : State) : Prop where
  copBit : t.copBit = s.copBit
  params : t.params = s.params
  wf : s.mem.wf = true → t.mem.wf = true
  below : addressesBelow s.params.memBytes s.mem = true → addressesBelow s.params.memBytes t.mem = true

/-- A state whose memory is untouched. -/
theorem KeepsMemory.of_mem_eq (hc : t.copBit = s.copBit) (hp : t.params = s.params) (hm : t.mem = s.mem) : KeepsMemory s t :=
  ⟨hc, hp, fun h => hm ▸ h, fun h => hm ▸ h⟩

theorem KeepsMemory.trans {u : State} (h : KeepsMemory s t) (k : KeepsMemory t u) : KeepsMemory s u :=
  ⟨k.copBit.trans h.copBit, k.params.trans h.params, fun hs => k.wf (h.wf hs), fun hs => by
    have := k.below (by rw [h.params]; exact h.below hs)
    rwa [h.params] at this⟩

theorem OnlyRegisters.keepsMemory (h : OnlyRegisters s t) : KeepsMemory s t := .of_mem_eq h.copBit h.params h.mem

theorem AfterStore.keepsMemory (h : AfterStore s t) : KeepsMemory s t := by
  obtain ⟨m, hm, hr⟩ := h
  have hstore : KeepsMemory s (s.setMem m) := ⟨rfl, rfl, hm.wf, hm.below⟩
  exact hstore.trans hr.keepsMemory

/-- Every instruction keeps what the invariant says of memory and parameters. -/
theorem Effect.keepsMemory (h : Effect s i t) : KeepsMemory s t := by
  cases h with
  | registers h => exact h.keepsMemory
  | accumulator _ _ _ _ h => exact .of_mem_eq h.copBit h.params h.mem
  | store _ _ _ _ _ _ h => exact h.keepsMemory
  | _ => exact .of_mem_eq rfl rfl rfl

/-- Only the four delay-slot instructions leave a slot owed (R191, R193). -/
theorem Effect.slot_eq (h : Effect s i t) (hi : hasDelaySlot i = false) : t.slot = s.slot := by
  cases h with
  | registers h => exact h.slot
  | accumulator _ _ _ _ h => exact h.slot
  | store _ _ _ _ _ _ h =>
    obtain ⟨m, -, hr⟩ := h
    exact hr.slot
  | owesSlot r d hd => rw [hd] at hi; cases hi
  | _ => rfl

end Effects

/-! ### The cycle: what a pass and a step do -/

section Cycle
variable {run : Instr → State → Result} {nested : Bool} {s t : State} {w : Word} {i : Instr}

/-- A step starts by forgetting the last outcome and slot (R33, R601). -/
theorem State.begin_setRaised_setSlot (s : State) (c : Option Condition) (d : DelaySlot) :
    ((s.setRaised c).setSlot d).begin = s.begin := rfl

/-- The work fields that a step clears are the only ones it clears. -/
theorem onlyChanges_begin (s : State) : OnlyChanges [.raised, .slot] s s.begin :=
  ⟨fun p hp => by cases p <;> first | rfl | simp at hp, rfl, rfl⟩

theorem keepsMemory_begin (s : State) : KeepsMemory s s.begin := .of_mem_eq rfl rfl rfl

/-- A fetch inside the memory reads the word at pc (R34). -/
theorem fetchWord_of_accessible (h : s.accessible s.pc 4 = true) : fetchWord s = some (load32 s.mem s.pc) := if_pos h

/-- Decoding in a state prefers the table of instructions to DECODE_FALLBACK (R86). -/
theorem decodeIn_of_decode {p : Params} (h : decode w = some i) : decodeIn p w = some i := by
  simp [decodeIn, h]

/-- A word that is not listed has no entry. -/
theorem lookupWord_eq_none {l : List (Word × Instr)} (h : ∀ e ∈ l, e.1 ≠ w) : lookupWord l w = none := by
  induction l with
  | nil => rfl
  | cons e rest ih =>
    obtain ⟨k, j⟩ := e
    have hk : k ≠ w := h (k, j) (List.mem_cons_self ..)
    rw [lookupWord, if_neg hk]
    exact ih fun e he => h e (List.mem_cons_of_mem _ he)

/-- A word with neither an instruction nor an entry in DECODE_FALLBACK does not decode (R37, R86). -/
theorem decodeIn_eq_none {p : Params} (h : decode w = none)
    (hf : uncovered w = true → ∀ e ∈ p.decodeFallback, e.1 ≠ w) : decodeIn p w = none := by
  cases hu : uncovered w with
  | false => simp [decodeIn, h, hu]
  | true => simp [decodeIn, h, hu, lookupWord_eq_none (hf hu)]

/-- The pass over a word that the closed gate stops (R35). -/
theorem pass_of_gateClosed (hf : fetchWord s = some w) (hg : gateClosed s w = true) : pass run nested s = .next s := by
  simp [pass, hf, hg]

/-- The pass over a word without an instruction (R37). -/
theorem pass_of_decodeIn_none (hf : fetchWord s = some w) (hg : gateClosed s w = false) (hd : decodeIn s.params w = none) :
    pass run nested s = .next ((s.setPc (s.pc + 4#32)).raise .unknownOpcode) := by
  simp [pass, hf, hg, hd]

/-- The first pass of a step over an instruction (R36, R38). -/
theorem pass_of_decodeIn_some (hf : fetchWord s = some w) (hg : gateClosed s w = false)
    (hd : decodeIn s.params w = some i) : pass run false s = run i (s.setPc (s.pc + 4#32)) := by
  simp [pass, hf, hg, hd]

/-- What a pass that completes has done: nothing, raised UnknownOpcode, or run an instruction, in a delay slot one without a delay
slot of its own (R34 to R38, R195). -/
theorem pass_next (h : pass run nested s = .next t) :
    t = s ∨ t = (s.setPc (s.pc + 4#32)).raise .unknownOpcode ∨
      ∃ i, (nested && hasDelaySlot i) = false ∧ run i (s.setPc (s.pc + 4#32)) = .next t := by
  unfold pass at h
  split at h
  · cases h
  · split at h
    · exact .inl (Host.Outcome.next.inj h).symm
    · split at h
      · exact .inr (.inl (Host.Outcome.next.inj h).symm)
      · split at h
        · cases h
        · rename_i i _ hn
          exact .inr (.inr ⟨i, by simpa using hn, h⟩)

/-- A step whose first pass owes no slot is that pass. -/
theorem stepWith_of_idle (h : pass run false s.begin = .next t) (ht : t.slot = .idle) : stepWith run s = .next t := by
  simp [stepWith, h, ht]

/-- A step whose first pass owes a slot runs it (R193). -/
theorem stepWith_of_slot (h : pass run false s.begin = .next t) (ht : t.slot ≠ .idle) :
    stepWith run s = runSlot run t.slot (t.setSlot .idle) := by
  cases hs : t.slot with
  | idle => exact absurd hs ht
  | fallThrough | transfer => simp [stepWith, h, hs]

/-- A step whose first pass is refused is refused. -/
theorem stepWith_of_refused {r : Refusal} (h : pass run false s.begin = .refused r) : stepWith run s = .refused r := by
  simp [stepWith, h]

/-- A step depends on nothing that its start clears. -/
theorem stepWith_eq_of_begin_eq (h : s.begin = t.begin) : stepWith run s = stepWith run t := by
  unfold stepWith
  rw [h]

/-- Leaving the slot writes pc or nothing (R193). -/
theorem onlyRegisters_leaveSlot (d : DelaySlot) (s : State) : OnlyRegisters s (leaveSlot d s) := by
  cases d with
  | transfer a => exact onlyRegisters_setPc s a
  | idle => exact .refl s
  | fallThrough => exact .refl s

/-- What the slot of a step that completes has done: a nested pass, and perhaps the pc write. -/
theorem runSlot_next {d : DelaySlot} (h : runSlot run d s = .next t) :
    ∃ u, pass run true s = .next u ∧ OnlyRegisters u t := by
  unfold runSlot at h
  split at h
  case h_1 u hu =>
    obtain rfl := Host.Outcome.next.inj h
    refine ⟨u, hu, ?_⟩
    split
    · exact .refl u
    · exact onlyRegisters_leaveSlot d u
  all_goals cases h

end Cycle

/-! ### Every step keeps the invariant -/

section Invariant
variable {nested : Bool} {s t : State}

/-- A pass keeps what the invariant says of memory and parameters. -/
theorem keepsMemory_of_pass (h : pass exec nested s = .next t) : KeepsMemory s t := by
  have hpc : KeepsMemory s (s.setPc (s.pc + 4#32)) := .of_mem_eq rfl rfl rfl
  obtain rfl | rfl | ⟨i, -, hi⟩ := pass_next h
  · exact .of_mem_eq rfl rfl rfl
  · exact .of_mem_eq rfl rfl rfl
  · exact hpc.trans (exec_effect hi).keepsMemory

/-- A pass in a delay slot owes no slot of its own (R195). -/
theorem slot_eq_of_nested_pass (h : pass exec true s = .next t) : t.slot = s.slot := by
  obtain rfl | rfl | ⟨i, hn, hi⟩ := pass_next h
  · rfl
  · rfl
  · exact (exec_effect hi).slot_eq hn

/-- A step is a pass that owes no slot, or one that does and the slot after it; either way none is owed at the end. -/
theorem keepsMemory_of_step (h : step s = .next t) : KeepsMemory s t ∧ t.slot = .idle := by
  change stepWith exec s = _ at h
  cases hp : pass exec false s.begin with
  | fault r => exact nomatch r
  | refused r => rw [stepWith_of_refused hp] at h; cases h
  | next u =>
    have hu : KeepsMemory s u := (keepsMemory_begin s).trans (keepsMemory_of_pass hp)
    by_cases hidle : u.slot = .idle
    · rw [stepWith_of_idle hp hidle] at h
      obtain rfl := Host.Outcome.next.inj h
      exact ⟨hu, hidle⟩
    · rw [stepWith_of_slot hp hidle] at h
      obtain ⟨v, hv, hr⟩ := runSlot_next h
      have hclear : KeepsMemory u (u.setSlot .idle) := .of_mem_eq rfl rfl rfl
      exact ⟨((hu.trans hclear).trans (keepsMemory_of_pass hv)).trans hr.keepsMemory,
        hr.slot.trans (slot_eq_of_nested_pass hv)⟩

/-- Settles O12: each part of the invariant is kept by the passes of the step. -/
theorem everyStepKeepsTheInvariant : Obligations.EveryStepKeepsTheInvariant := by
  intro s t hs h
  obtain ⟨hwf, hbelow, hparams, -⟩ := (State.wf_iff s).1 hs
  obtain ⟨hk, hslot⟩ := keepsMemory_of_step h
  refine ⟨(State.wf_iff t).2 ⟨hk.wf hwf, ?_, ?_, hslot⟩, hk.params, hk.copBit⟩
  · rw [hk.params]; exact hk.below hbelow
  · rw [hk.params]; exact hparams

end Invariant

/-! ### Who raises and who writes -/

section Effects
variable {s t : State} {i : Instr}

/-- A comparison of format S changes its mask and the outcome. -/
theorem onlyChanges_signalS (s : State) (r : Reg) (v : Word) (c : Condition) :
    OnlyChanges [.f r, .raised] s ((s.setF r v).raise c) :=
  (onlyChanges_setF s r v).trans (onlyChanges_raise _ c)

/-- A comparison of format D changes the pair of its mask and the outcome. -/
theorem onlyChanges_signalD (s : State) (r : Reg) (v : DWord) (c : Condition) :
    OnlyChanges [.f r, .f (r + 1), .raised] s ((s.setD r v).raise c) :=
  (onlyChanges_setD s r v).trans (onlyChanges_raise _ c)

/-- A condition reported after an instruction that began with none was raised by it, in one of three ways. -/
theorem Effect.raised_cases {c : Condition} (h : Effect s i t) (hs : s.raised = none) (hc : t.raised = some c) :
    (Raises s i c ∧ t = s.raise c) ∨
    (c = .invalidFloatingPointOperation ∧ ∃ r p q v, i ∈ signallingS r p q ∧ t = (s.setF r v).raise c) ∨
    (c = .invalidFloatingPointOperation ∧ ∃ r p q v, i ∈ signallingD r p q ∧ t = (s.setD r v).raise c) := by
  have hquiet : t.raised ≠ s.raised := by simp [hs, hc]
  cases h with
  | registers h => exact absurd h.raised hquiet
  | accumulator _ _ _ _ h => exact absurd h.raised hquiet
  | store _ _ _ _ _ _ h =>
    obtain ⟨m, -, hr⟩ := h
    exact absurd hr.raised hquiet
  | raises h =>
    obtain rfl := Option.some.inj hc
    exact .inl ⟨h, rfl⟩
  | signalsS v hi =>
    obtain rfl := Option.some.inj hc
    exact .inr (.inl ⟨rfl, _, _, _, v, hi, rfl⟩)
  | signalsD v hi =>
    obtain rfl := Option.some.inj hc
    exact .inr (.inr ⟨rfl, _, _, _, v, hi, rfl⟩)
  | _ => exact absurd rfl hquiet

/-- Settles O59: `Raises` is the table of R561 but for the signalling comparisons, which also write their masks. -/
theorem onlyTheNamedInstructionsRaise : Obligations.OnlyTheNamedInstructionsRaise := by
  intro i s t c hs h hc
  obtain ⟨hr, rfl⟩ | ⟨rfl, r, p, q, v, hi, rfl⟩ | ⟨rfl, r, p, q, v, hi, rfl⟩ := (exec_effect h).raised_cases hs hc
  · have hframe := onlyChanges_raise s c
    cases hr with
    | breakpoint code => exact ⟨⟨code, rfl⟩, hframe⟩
    | syscall code => exact ⟨⟨code, rfl⟩, hframe⟩
    | debugBreakpoint code => exact ⟨⟨code, rfl⟩, hframe⟩
    | reservedInstruction r imm => exact ⟨⟨r, imm, rfl⟩, hframe⟩
    | trap hi => exact ⟨⟨_, _, _, hi⟩, hframe⟩
    | addressError r q => exact ⟨⟨r, q, rfl⟩, hframe⟩
    | subOverflow r p q => exact ⟨⟨r, p, q, .inl rfl⟩, hframe⟩
    | addOverflow r p q hp => exact ⟨⟨r, p, q, .inr ⟨rfl, hp⟩⟩, hframe⟩
  · exact ⟨r, p, q, .inl ⟨hi, onlyChanges_signalS s r v _⟩⟩
  · exact ⟨r, p, q, .inr ⟨hi, onlyChanges_signalD s r v _⟩⟩

/-- Settles O60: each effect changes at most the part that its instructions are named for. -/
theorem specialStateHasNamedWriters : Obligations.SpecialStateHasNamedWriters := by
  intro i s t h
  cases exec_effect h with
  | registers h =>
    exact ⟨h.copBit, h.params, (absurd h.fcr ·), (absurd h.c2c ·), (absurd h.sx ·), (absurd h.c2d ·),
      (Or.elim · (absurd h.hi) (absurd h.lo)), (absurd h.mem ·)⟩
  | accumulator r q a b h hi =>
    exact ⟨h.copBit, h.params, (absurd h.fcr ·), (absurd h.c2c ·), (absurd h.sx ·), (absurd h.c2d ·),
      fun _ => ⟨r, q, hi⟩, (absurd h.mem ·)⟩
  | store r q b o o9 o11 h hi =>
    obtain ⟨m, -, h⟩ := h
    exact ⟨h.copBit, h.params, (absurd h.fcr ·), (absurd h.c2c ·), (absurd h.sx ·), (absurd h.c2d ·),
      (Or.elim · (absurd h.hi) (absurd h.lo)), fun _ => ⟨r, q, b, o, o9, o11, hi⟩⟩
  | fpuControl r q v =>
    exact ⟨rfl, rfl, fun _ => ⟨r, q, rfl⟩, (absurd rfl ·), (absurd rfl ·), (absurd rfl ·),
      (Or.elim · (absurd rfl) (absurd rfl)), (absurd rfl ·)⟩
  | cop2Control r q v =>
    exact ⟨rfl, rfl, (absurd rfl ·), fun _ => ⟨r, q, rfl⟩, (absurd rfl ·), (absurd rfl ·),
      (Or.elim · (absurd rfl) (absurd rfl)), (absurd rfl ·)⟩
  | shadow r q v =>
    exact ⟨rfl, rfl, (absurd rfl ·), (absurd rfl ·), fun _ => ⟨r, q, rfl⟩, (absurd rfl ·),
      (Or.elim · (absurd rfl) (absurd rfl)), (absurd rfl ·)⟩
  | cop2Data r q o g hi =>
    exact ⟨rfl, rfl, (absurd rfl ·), (absurd rfl ·), (absurd rfl ·), fun _ => ⟨r, q, o, hi⟩,
      (Or.elim · (absurd rfl) (absurd rfl)), (absurd rfl ·)⟩
  | owesSlot | raises | signalsS | signalsD =>
    exact ⟨rfl, rfl, (absurd rfl ·), (absurd rfl ·), (absurd rfl ·), (absurd rfl ·),
      (Or.elim · (absurd rfl) (absurd rfl)), (absurd rfl ·)⟩

end Effects

/-! ### The step on the words it meets -/

section Steps
variable {s t : State} {i : Instr}

/-- What the four delay-slot instructions answer: a raise, or a link and a slot owed (R193, R568). -/
theorem exec_of_hasDelaySlot (s : State) (hi : hasDelaySlot i = true) :
    ∃ t, exec i s = .next t ∧ (t = s.raise .addressError ∨ ∃ r d, d ≠ .idle ∧ t = (s.setX r s.link8).setSlot d) := by
  have hlink (r : Reg) (c : Bool) (a : Word) :
      ∃ t, linkWithSlot r c a s = .next t ∧
        (t = s.raise .addressError ∨ ∃ r d, d ≠ .idle ∧ t = (s.setX r s.link8).setSlot d) :=
    ⟨_, rfl, .inr ⟨r, _, by cases c <;> simp, rfl⟩⟩
  cases i with
  | bal | jal | bltzal => exact hlink _ _ _
  | jalr rd rs =>
    change ∃ t, execJalr rd rs s = _ ∧ _
    unfold execJalr
    split
    · exact hlink _ _ _
    · exact ⟨_, rfl, .inl rfl⟩
  | _ => cases hi

/-- A step whose instruction has no delay slot is the meaning of the instruction. -/
theorem step_of_pass_no_slot (hp : pass exec false s.begin = exec i (s.begin.setPc (s.pc + 4#32)))
    (hi : hasDelaySlot i = false) : step s = exec i (s.begin.setPc (s.pc + 4#32)) := by
  cases he : exec i (s.begin.setPc (s.pc + 4#32)) with
  | next t => exact stepWith_of_idle (hp.trans he) ((exec_effect he).slot_eq hi)
  | fault r => exact nomatch r
  | refused r => exact stepWith_of_refused (hp.trans he)

/-- Settles O6: the first pass is the meaning of the instruction; whether it owes a slot is known from the instruction, and for the
four that may, from whether they raised. -/
theorem stepRunsTheDecodedInstruction : Obligations.StepRunsTheDecodedInstruction := by
  intro s i hacc hgate hdec
  have hp : pass exec false s.begin = exec i (s.begin.setPc (s.pc + 4#32)) :=
    pass_of_decodeIn_some (s := s.begin) (fetchWord_of_accessible hacc) hgate (decodeIn_of_decode hdec)
  refine ⟨step_of_pass_no_slot hp, fun hi => ?_⟩
  obtain ⟨t, he, ht⟩ := exec_of_hasDelaySlot (s.begin.setPc (s.pc + 4#32)) hi
  refine ⟨t, he, ?_⟩
  rw [he] at hp
  obtain rfl | ⟨r, d, hd, rfl⟩ := ht
  · exact ⟨fun _ => stepWith_of_idle hp rfl, (nomatch ·)⟩
  · exact ⟨(nomatch ·), fun _ => ⟨hd, stepWith_of_slot hp hd⟩⟩

/-- Settles O9: the closed gate ends the pass where it starts, in the state that the step cleared. -/
theorem closedGateChangesNothing : Obligations.ClosedGateChangesNothing := by
  intro s hacc hop hcop
  have hgate : gateClosed s.begin (load32 s.mem s.pc) = true := by
    have hopcode : opcodeF (load32 s.mem s.pc) = 0x12#6 := hop
    have hbit : s.begin.copBit.getLsbD 1 = false := hcop
    simp only [gateClosed, hopcode, hbit, beq_self_eq_true, Bool.not_false, Bool.and_self]
  have hp : pass exec false s.begin = .next s.begin :=
    pass_of_gateClosed (s := s.begin) (fetchWord_of_accessible hacc) hgate
  exact ⟨s.begin, stepWith_of_idle hp rfl, rfl, onlyChanges_begin s, fun h => h.symm, stepWith_of_idle (s := s.begin) hp rfl⟩

/-- Settles O10: with no entry in DECODE_FALLBACK the pass raises after the advance of pc. -/
theorem unknownOpcodeChangesPcOnly : Obligations.UnknownOpcodeChangesPcOnly := by
  intro s hacc hgate hdec hfallback
  have hp : pass exec false s.begin = .next ((s.begin.setPc (s.pc + 4#32)).raise .unknownOpcode) :=
    pass_of_decodeIn_none (s := s.begin) (fetchWord_of_accessible hacc) hgate (decodeIn_eq_none hdec hfallback)
  refine ⟨_, stepWith_of_idle hp rfl, rfl, rfl, ?_, fun h => h.symm⟩
  have hframe := ((onlyChanges_begin s).trans (onlyChanges_setPc _ (s.pc + 4#32))).trans (onlyChanges_raise _ .unknownOpcode)
  exact hframe.mono (by decide)

/-- Settles O11: the two fields are among those that the step clears at its start. -/
theorem stepForgetsTheLastOutcome : Obligations.StepForgetsTheLastOutcome := fun s c d =>
  stepWith_eq_of_begin_eq (State.begin_setRaised_setSlot s c d)

end Steps

/-! ### Addition -/

section Addition
variable {s : State} {i : Instr}

/-- An instruction whose meaning is one write of a general register. -/
theorem completes_setX {r : Reg} {v : Word} {q : State → Prop} (he : exec i s = .next (s.setX r v)) (hq : q (s.setX r v)) :
    Completes i s [.x r] q := ⟨_, he, hq, onlyChanges_setX s r v⟩

/-- ADD does not look for overflow unless its parameter says so (R101). -/
theorem exec_add_of_untrapped (rd rs rt : Reg) (h : s.params.addOverflowTraps = false) :
    exec (.add rd rs rt) s = .next (s.setX rd (s.getX rs + s.getX rt)) := by
  change execAdd rd rs rt s = _
  simp [execAdd, h]

/-- The difference of words is the signed difference modulo 2^32. -/
theorem sub_eq_ofInt (a b : Word) : a - b = BitVec.ofInt 32 (a.toInt - b.toInt) := by
  rw [Int.sub_eq_add_neg, BitVec.ofInt_add, BitVec.ofInt_neg, BitVec.ofInt_toInt, BitVec.ofInt_toInt, BitVec.sub_eq_add_neg]

/-- Adding a sign-extended immediate is adding its signed value modulo 2^32. -/
theorem add_sext16_eq_ofInt (a : Word) (imm : Half) : a + sext16 imm = BitVec.ofInt 32 (a.toInt + imm.toInt) := by
  rw [BitVec.ofInt_add, BitVec.ofInt_toInt]
  rfl

/-- Settles O19: each meaning is one write of the wrapped result, whichever register it goes to. -/
theorem additionWraps : Obligations.AdditionWraps := by
  intro s rd rs rt imm
  have hsum : (s.getX rs + s.getX rt).toNat = ((s.getX rs).toNat + (s.getX rt).toNat) % 2 ^ 32 := BitVec.toNat_add _ _
  refine ⟨fun h => completes_setX (exec_add_of_untrapped rd rs rt h) ?_, completes_setX rfl ?_, completes_setX rfl ?_,
    completes_setX rfl ?_⟩
  · rw [State.getX_setX_same, hsum]
  · rw [State.getX_setX_same, hsum]
  · rw [State.getX_setX_same, sub_eq_ofInt]
  · rw [State.getX_setX_same, add_sext16_eq_ofInt]

end Addition

/-! ### Memory as big-endian numbers -/

/-- The number of two strings of bytes in a row. -/
theorem bigEndian_append (xs ys : List Byte) : bigEndian (xs ++ ys) = bigEndian xs * 2 ^ (8 * ys.length) + bigEndian ys := by
  induction ys using List.reverseRecOn with
  | nil => simp [bigEndian]
  | append_singleton ys y ih =>
    have hlast (zs : List Byte) : bigEndian (zs ++ [y]) = 256 * bigEndian zs + y.toNat := by simp [bigEndian]
    rw [← List.append_assoc, hlast, hlast, ih, List.length_append, List.length_singleton, Nat.mul_succ, pow_add]
    ring

/-- The bytes of an access are those of its two parts (R51). -/
theorem State.bytesFrom_add (s : State) (a : Word) (m n : Nat) :
    s.bytesFrom a (m + n) = s.bytesFrom a m ++ s.bytesFrom (a + BitVec.ofNat 32 m) n := by
  simp only [State.bytesFrom, List.range_add, List.map_append, List.map_map]
  congr 1
  refine List.map_congr_left fun i _ => ?_
  simp [BitVec.add_assoc]

theorem State.length_bytesFrom (s : State) (a : Word) (n : Nat) : (s.bytesFrom a n).length = n := by
  simp [State.bytesFrom]

/-- The number of a concatenation. -/
theorem toNat_append_eq {m n : Nat} (x : BitVec m) (y : BitVec n) : (x ++ y).toNat = x.toNat * 2 ^ n + y.toNat := by
  rw [BitVec.toNat_append, ← Nat.shiftLeft_add_eq_or_of_lt y.isLt, Nat.shiftLeft_eq]

section Reads
variable (s : State) (a : Word)

theorem toNat_load8 : (load8 s.mem a).toNat = bigEndian (s.bytesFrom a 1) := by
  have hzero : a + BitVec.ofNat 32 0 = a := BitVec.add_zero a
  have hbytes : s.bytesFrom a 1 = [load8 s.mem a] := by
    simp only [State.bytesFrom, List.range_one, List.map_cons, List.map_nil, hzero]
    rfl
  simp [hbytes, bigEndian]

theorem toNat_load16 : (load16 s.mem a).toNat = bigEndian (s.bytesFrom a 2) := by
  rw [load16, toNat_append_eq, toNat_load8, toNat_load8, s.bytesFrom_add a 1 1, bigEndian_append, State.length_bytesFrom]

theorem toNat_load32 : (load32 s.mem a).toNat = bigEndian (s.bytesFrom a 4) := by
  rw [load32, toNat_append_eq, toNat_load16, toNat_load16, s.bytesFrom_add a 2 2, bigEndian_append, State.length_bytesFrom]

theorem toNat_load64 : (load64 s.mem a).toNat = bigEndian (s.bytesFrom a 8) := by
  rw [load64, toNat_append_eq, toNat_load32, toNat_load32, s.bytesFrom_add a 4 4, bigEndian_append, State.length_bytesFrom]

end Reads

/-! ### A store and the read of what it stored (R53) -/

/-- The bytes of an access of up to eight bytes lie at different addresses, although addresses wrap (R51). -/
theorem byteAddress_ne (a : Word) {i j : Nat} (hi : i < 8) (hj : j < 8) (h : i ≠ j) :
    (a + BitVec.ofNat 32 i).toNat ≠ (a + BitVec.ofNat 32 j).toNat := by
  simp only [BitVec.toNat_add, BitVec.toNat_ofNat]
  omega

/-- The byte of an access that starts further into it. -/
theorem byteAddress_add (a : Word) (m i : Nat) :
    a + BitVec.ofNat 32 m + BitVec.ofNat 32 i = a + BitVec.ofNat 32 (m + i) := by
  rw [BitVec.add_assoc, ← BitVec.ofNat_add]

section Congruence
variable {m m' : Memory} {a : Word}

/-- A halfword read depends on its two bytes. -/
theorem load16_congr (h : ∀ i, i < 2 → readByte m (a + BitVec.ofNat 32 i).toNat = readByte m' (a + BitVec.ofNat 32 i).toNat) :
    load16 m a = load16 m' a := by
  have h0 := h 0 (by decide)
  have h1 := h 1 (by decide)
  simp only [BitVec.add_zero] at h0
  simp only [load16, load8, h0, h1]

/-- A word read depends on its four bytes. -/
theorem load32_congr (h : ∀ i, i < 4 → readByte m (a + BitVec.ofNat 32 i).toNat = readByte m' (a + BitVec.ofNat 32 i).toNat) :
    load32 m a = load32 m' a := by
  have hlow : load16 m a = load16 m' a := load16_congr fun i hi => h i (by omega)
  have hhigh : load16 m (a + 2#32) = load16 m' (a + 2#32) := load16_congr fun i hi => by
    rw [byteAddress_add a 2 i]
    exact h (2 + i) (by omega)
  rw [load32, load32, hlow, hhigh]

end Congruence

section ReadBack
variable (m : Memory) (a : Word)

theorem load8_store8 (v : Byte) : load8 (store8 m a v) a = v := readByte_writeByte_same m a.toNat v

theorem load16_store16 (v : Half) : load16 (store16 m a v) a = v := by
  have hne : a.toNat ≠ (a + 1#32).toNat := by
    simpa only [BitVec.add_zero] using byteAddress_ne a (i := 0) (j := 1) (by decide) (by decide) (by decide)
  have hfirst : load8 (store16 m a v) a = v.extractLsb' 8 8 := by
    rw [load8, store16, readByte_store8, if_neg hne]
    exact load8_store8 m a _
  have hsecond : load8 (store16 m a v) (a + 1#32) = v.extractLsb' 0 8 := load8_store8 _ _ _
  rw [load16, hfirst, hsecond]
  exact BitVec.extractLsb'_append_extractLsb'_eq_extractLsb' (by decide) |>.trans (BitVec.extractLsb'_eq_self)

theorem load32_store32 (v : Word) : load32 (store32 m a v) a = v := by
  have hfirst : load16 (store32 m a v) a = v.extractLsb' 16 16 := by
    refine (load16_congr fun i hi => store16_frame _ _ _ fun j hj => ?_).trans (load16_store16 m a _)
    rw [byteAddress_add a 2 j]
    exact byteAddress_ne a (by omega) (by omega) (by omega)
  have hsecond : load16 (store32 m a v) (a + 2#32) = v.extractLsb' 0 16 := load16_store16 _ _ _
  rw [load32, hfirst, hsecond]
  exact BitVec.extractLsb'_append_extractLsb'_eq_extractLsb' (by decide) |>.trans (BitVec.extractLsb'_eq_self)

theorem load64_store64 (v : DWord) : load64 (store64 m a v) a = v := by
  have hfirst : load32 (store64 m a v) a = v.extractLsb' 32 32 := by
    refine (load32_congr fun i hi => store32_frame _ _ _ fun j hj => ?_).trans (load32_store32 m a _)
    rw [byteAddress_add a 4 j]
    exact byteAddress_ne a (by omega) (by omega) (by omega)
  have hsecond : load32 (store64 m a v) (a + 4#32) = v.extractLsb' 0 32 := load32_store32 _ _ _
  rw [load64, hfirst, hsecond]
  exact BitVec.extractLsb'_append_extractLsb'_eq_extractLsb' (by decide) |>.trans (BitVec.extractLsb'_eq_self)

end ReadBack

/-! ### Pairs of registers (R26, R28) -/

/-- A register number names a pair exactly when it is even (R26, U4). -/
theorem evenReg_iff (n : Reg) : evenReg n = true ↔ n.toNat % 2 = 0 := by
  revert n; decide

/-- An odd register number names no pair (U4). -/
theorem evenReg_eq_false {n : Reg} (h : n.toNat % 2 = 1) : evenReg n = false := by
  rw [← Bool.not_eq_true, evenReg_iff]
  omega

/-- The upper register of a pair, by its number. -/
theorem eq_succ_of_toNat {r h : Reg} (hh : h.toNat = r.toNat + 1) : h = r + 1#5 := by
  have := h.isLt
  apply BitVec.eq_of_toNat_eq
  rw [BitVec.toNat_add, hh]
  simp
  omega

/-- A pair is a number with the even register as its low half (R26). -/
theorem toNat_readPair (g : RegFile) (r : Reg) :
    (readPair g r).toNat = (readReg g (r + 1#5)).toNat * 2 ^ 32 + (readReg g r).toNat := toNat_append_eq _ _

/-! ### Loads and stores of the FPU and COP2 data registers -/

section CoprocessorMemory
variable {s : State} {i : Instr} {a : Word} {ps : List Place} {q : State → Prop}

/-- A word load completes as what is done with the word read. -/
theorem completes_of_loadWord {k : Word → State} (he : exec i s = loadWord a s k) (ha : s.accessible a 4 = true)
    (hq : q (k (load32 s.mem a))) (hf : OnlyChanges ps s (k (load32 s.mem a))) : Completes i s ps q :=
  ⟨_, he.trans (loadWord_next.2 ⟨ha, rfl⟩), hq, hf⟩

/-- A doubleword load of an even pair completes as what is done with the doubleword read. -/
theorem completes_of_loadDouble {r : Reg} {k : DWord → State} (he : exec i s = onPairs (evenReg r) (loadDouble a s k))
    (hr : r.toNat % 2 = 0) (ha : s.accessible a 8 = true) (hq : q (k (load64 s.mem a)))
    (hf : OnlyChanges ps s (k (load64 s.mem a))) : Completes i s ps q :=
  ⟨_, he.trans (onPairs_next.2 ⟨(evenReg_iff r).2 hr, loadDouble_next.2 ⟨ha, rfl⟩⟩), hq, hf⟩

/-- A word store completes with the bytes of the word in place. -/
theorem completes_of_storeWord {v : Word} (he : exec i s = storeWord a v s) (ha : s.accessible a 4 = true) :
    Completes i s (bytePlaces a 4) fun t => bigEndian (t.bytesFrom a 4) = v.toNat := by
  refine ⟨_, he.trans (storeWord_next.2 ⟨ha, rfl⟩), ?_, onlyChanges_store32 s a v⟩
  beta_reduce
  rw [← toNat_load32, State.setMem_mem, load32_store32]

/-- A doubleword store of an even pair completes with the bytes of the pair in place. -/
theorem completes_of_storeDouble {r : Reg} {v : DWord} (he : exec i s = onPairs (evenReg r) (storeDouble a v s))
    (hr : r.toNat % 2 = 0) (ha : s.accessible a 8 = true) :
    Completes i s (bytePlaces a 8) fun t => bigEndian (t.bytesFrom a 8) = v.toNat := by
  refine ⟨_, he.trans (onPairs_next.2 ⟨(evenReg_iff r).2 hr, storeDouble_next.2 ⟨ha, rfl⟩⟩), ?_,
    onlyChanges_store64 s a v⟩
  beta_reduce
  rw [← toNat_load64, State.setMem_mem, load64_store64]

/-- A written pair of FPU registers reads as the number written (R26). -/
theorem toNat_getF_pair_setD (s : State) (r : Reg) (v : DWord) :
    ((s.setD r v).getF (r + 1#5)).toNat * 2 ^ 32 + ((s.setD r v).getF r).toNat = v.toNat := by
  rw [State.getF, State.getF, ← toNat_readPair, State.setD_f, readPair_writePair_same]

/-- A written pair of COP2 data registers reads as the number written (R28). -/
theorem toNat_getC2d_pair_setC2dPair (s : State) (r : Reg) (v : DWord) :
    ((s.setC2dPair r v).getC2d (r + 1#5)).toNat * 2 ^ 32 + ((s.setC2dPair r v).getC2d r).toNat = v.toNat := by
  rw [State.getC2d, State.getC2d, ← toNat_readPair, State.setC2dPair_c2d, readPair_writePair_same]

/-- Settles O41: a load writes the number of the bytes read, a store leaves bytes whose number is the register or pair. -/
theorem coprocessorLoadsAndStores : Obligations.CoprocessorLoadsAndStores := by
  intro s r h base off o11
  refine ⟨fun ha => ?lwc1, fun ha => ?lwc2, fun hr hh ha => ?ldc1, fun hr hh ha => ?ldc2, fun ha => ?swc1, fun ha => ?swc2,
    fun hr hh ha => ?sdc1, fun hr hh ha => ?sdc2⟩
  case lwc1 =>
    refine completes_of_loadWord rfl ha ?_ (onlyChanges_setF s r _)
    rw [State.getF_setF_same, toNat_load32]
  case lwc2 =>
    refine completes_of_loadWord rfl ha ?_ (onlyChanges_setC2d s r _)
    rw [State.getC2d_setC2d, if_pos rfl, toNat_load32]
  case ldc1 =>
    obtain rfl := eq_succ_of_toNat hh
    refine completes_of_loadDouble rfl hr ha ?_ (onlyChanges_setD s r _)
    rw [toNat_getF_pair_setD, toNat_load64]
  case ldc2 =>
    obtain rfl := eq_succ_of_toNat hh
    refine completes_of_loadDouble rfl hr ha ?_ (onlyChanges_setC2dPair s r _)
    rw [toNat_getC2d_pair_setC2dPair, toNat_load64]
  case swc1 => exact completes_of_storeWord rfl ha
  case swc2 => exact completes_of_storeWord rfl ha
  case sdc1 =>
    obtain rfl := eq_succ_of_toNat hh
    have hpair : (s.getD r).toNat = _ := toNat_readPair s.f r
    exact hpair ▸ completes_of_storeDouble (v := s.getD r) rfl hr ha
  case sdc2 =>
    obtain rfl := eq_succ_of_toNat hh
    exact toNat_readPair s.c2d r ▸ completes_of_storeDouble (v := readPair s.c2d r) rfl hr ha

end CoprocessorMemory

/-! ### Odd pairs (U4) -/

/-- An instruction that goes on only with even pairs is refused when one is odd. -/
theorem refused_of_onPairs {i : Instr} {s : State} {even : Bool} {k : Result} (h : even = false)
    (he : exec i s = onPairs even k) : exec i s = .refused .oddPair := by
  rw [he, h]
  rfl

/-- Settles O50: each meaning begins with the check of the registers that name pairs, and the odd one fails it at any place. -/
theorem oddPairsAreRefused : Obligations.OddPairsAreRefused := by
  intro s o r q base off o11 ho
  have hodd : evenReg o = false := evenReg_eq_false ho
  have hfirst : (evenReg o && evenReg r) = false := by simp [hodd]
  have hsecond : (evenReg r && evenReg o) = false := by simp [hodd]
  have hfirst3 : (evenReg o && evenReg r && evenReg q) = false := by simp [hodd]
  have hsecond3 : (evenReg r && evenReg o && evenReg q) = false := by simp [hodd]
  have hthird3 : (evenReg r && evenReg q && evenReg o) = false := by simp [hodd]
  refine ⟨fun mk hmk => ?three, fun mk hmk => ?two, fun mk hmk => ?source, fun mk hmk => ?target, fun mk hmk => ?fpuMemory,
    fun mk hmk => ?cop2Memory⟩
  case three =>
    fin_cases hmk
    all_goals exact ⟨refused_of_onPairs hfirst3 rfl, refused_of_onPairs hsecond3 rfl, refused_of_onPairs hthird3 rfl⟩
  case two =>
    fin_cases hmk
    all_goals exact ⟨refused_of_onPairs hfirst rfl, refused_of_onPairs hsecond rfl⟩
  case source | target | fpuMemory | cop2Memory =>
    fin_cases hmk
    all_goals exact refused_of_onPairs hodd rfl

end Sys2Proof.Machine

namespace Sys2Proof.Machine

/-! ### A read by its bytes and its parts (R52, R53) -/

/-- The n bytes from `a` are the bits of `v`, most significant byte first (R52). -/
def HasBytes {w : Nat} (m : Memory) (a : Word) (n : Nat) (v : BitVec w) : Prop :=
  ∀ i, i < n → load8 m (a + BitVec.ofNat 32 i) = v.extractLsb' (8 * (n - i - 1)) 8

section Parts
variable {m : Memory} {a : Word}

/-- Two strings of bytes in a row make the concatenation of their values. -/
theorem HasBytes.append {w n k : Nat} {x : BitVec w} {y : BitVec (8 * n)} (hx : HasBytes m a k x)
    (hy : HasBytes m (a + BitVec.ofNat 32 k) n y) : HasBytes m a (k + n) (x ++ y) := by
  intro i hi
  by_cases hik : i < k
  · rw [hx i hik, BitVec.extractLsb'_append_eq_of_le (by omega)]
    congr 1
    omega
  · obtain ⟨j, rfl⟩ := Nat.exists_eq_add_of_le (Nat.le_of_not_lt hik)
    rw [← byteAddress_add, hy j (by omega), BitVec.extractLsb'_append_eq_of_add_le (by omega)]
    congr 1
    omega

theorem hasBytes_load8 (m : Memory) (a : Word) : HasBytes m a 1 (load8 m a) := by
  intro i hi
  obtain rfl : i = 0 := by omega
  rw [show a + BitVec.ofNat 32 0 = a from BitVec.add_zero a]
  exact BitVec.extractLsb'_eq_self.symm

theorem hasBytes_load16 (m : Memory) (a : Word) : HasBytes m a 2 (load16 m a) :=
  (hasBytes_load8 m a).append (n := 1) (hasBytes_load8 m (a + 1#32))

theorem hasBytes_load32 (m : Memory) (a : Word) : HasBytes m a 4 (load32 m a) :=
  (hasBytes_load16 m a).append (n := 2) (hasBytes_load16 m (a + 2#32))

theorem hasBytes_load64 (m : Memory) (a : Word) : HasBytes m a 8 (load64 m a) :=
  (hasBytes_load32 m a).append (n := 4) (hasBytes_load32 m (a + 4#32))

variable {w n : Nat} {v : BitVec w}

/-- A halfword read inside an access sees the bits of that part (R53). -/
theorem HasBytes.load16_eq (h : HasBytes m a n v) {i : Nat} (hi : i + 2 ≤ n) :
    load16 m (a + BitVec.ofNat 32 i) = v.extractLsb' (8 * (n - 2 - i)) 16 := by
  have hsecond := h (i + 1) (by omega)
  rw [← byteAddress_add a i 1] at hsecond
  rw [load16, h i (by omega), hsecond, BitVec.extractLsb'_append_extractLsb'_eq_extractLsb' (by omega)]
  congr 1
  omega

/-- A word read inside an access sees the bits of that part (R53). -/
theorem HasBytes.load32_eq (h : HasBytes m a n v) {i : Nat} (hi : i + 4 ≤ n) :
    load32 m (a + BitVec.ofNat 32 i) = v.extractLsb' (8 * (n - 4 - i)) 32 := by
  have hsecond := h.load16_eq (i := i + 2) (by omega)
  rw [← byteAddress_add a i 2] at hsecond
  rw [load32, h.load16_eq (by omega), hsecond, BitVec.extractLsb'_append_extractLsb'_eq_extractLsb' (by omega)]
  congr 1
  omega

end Parts

section Stores
variable (m : Memory) (a : Word)

theorem hasBytes_store16 (v : Half) : HasBytes (store16 m a v) a 2 v := by
  simpa only [load16_store16] using hasBytes_load16 (store16 m a v) a

theorem hasBytes_store32 (v : Word) : HasBytes (store32 m a v) a 4 v := by
  simpa only [load32_store32] using hasBytes_load32 (store32 m a v) a

theorem hasBytes_store64 (v : DWord) : HasBytes (store64 m a v) a 8 v := by
  simpa only [load64_store64] using hasBytes_load64 (store64 m a v) a

end Stores

/-- Settles O15: each width is two reads of half of it, down to the byte. -/
theorem readsAreBigEndian : Obligations.ReadsAreBigEndian := fun s a =>
  ⟨toNat_load8 s a, toNat_load16 s a, toNat_load32 s a, toNat_load64 s a⟩

/-- Settles O16: the value reads back, so its parts read as the parts of any read do. -/
theorem writesStoreEachByte : Obligations.WritesStoreEachByte := by
  intro m a
  refine ⟨fun v => ?byte, fun v => ?half, fun v => ?word, fun v => ?double⟩
  case byte => exact ⟨load8_store8 m a v, readByte_store8 m a v⟩
  case half => exact ⟨load16_store16 m a v, hasBytes_store16 m a v, fun _ => store16_frame m a v⟩
  case word =>
    have hbytes := hasBytes_store32 m a v
    exact ⟨load32_store32 m a v, fun i hi => hbytes.load16_eq (by omega), hbytes, fun _ => store32_frame m a v⟩
  case double =>
    have hbytes := hasBytes_store64 m a v
    exact ⟨load64_store64 m a v, fun i hi => hbytes.load32_eq (by omega), fun i hi => hbytes.load16_eq (by omega), hbytes,
      fun _ => store64_frame m a v⟩

/-! ### Conditional stores and loads of a pair of words (R485, R505) -/

section ConditionalStores
variable {s : State} {i : Instr} {a : Word} {rt rd : Reg}

/-- The bytes of memory do not depend on the general registers. -/
theorem State.bytesFrom_setX (s : State) (r : Reg) (v a : Word) (n : Nat) :
    (s.setX r v).bytesFrom a n = s.bytesFrom a n := rfl

/-- A change and then a write of a general register, as where a store reports its success (R485). -/
theorem OnlyChanges.then_setX {t : State} {ps : List Place} (h : OnlyChanges ps s t) (r : Reg) (v : Word) :
    OnlyChanges (.x r :: ps) s (t.setX r v) :=
  (h.trans (onlyChanges_setX t r v)).mono fun p hp => by simpa [or_comm] using hp

/-- A conditional word store completes with the bytes of the word in place and 1 in rt. -/
theorem completes_of_storeWordThenOne {v : Word} (he : exec i s = storeWordThenOne a v rt s)
    (ha : s.accessible a 4 = true) : Completes i s (.x rt :: bytePlaces a 4) fun t =>
      t.getX rt = 1 ∧ bigEndian (t.bytesFrom a 4) = v.toNat := by
  refine ⟨_, he.trans (storeWordThenOne_next.2 ⟨ha, rfl⟩), ⟨State.getX_setX_same .., ?_⟩,
    (onlyChanges_store32 s a v).then_setX rt _⟩
  rw [State.bytesFrom_setX, ← toNat_load32, State.setMem_mem, load32_store32]

/-- A conditional doubleword store completes with the bytes of the doubleword in place and 1 in rt. -/
theorem completes_of_storeDoubleThenOne {v : DWord} (he : exec i s = storeDoubleThenOne a v rt s)
    (ha : s.accessible a 8 = true) : Completes i s (.x rt :: bytePlaces a 8) fun t =>
      t.getX rt = 1 ∧ bigEndian (t.bytesFrom a 8) = v.toNat := by
  refine ⟨_, he.trans (storeDoubleThenOne_next.2 ⟨ha, rfl⟩), ⟨State.getX_setX_same .., ?_⟩,
    (onlyChanges_store64 s a v).then_setX rt _⟩
  rw [State.bytesFrom_setX, ← toNat_load64, State.setMem_mem, load64_store64]

/-- The first word of a doubleword is its upper half (R52). -/
theorem extractLsb'_load64_high (m : Memory) (a : Word) : (load64 m a).extractLsb' 32 32 = load32 m a :=
  BitVec.extractLsb'_append_eq_left

/-- The second word of a doubleword is its lower half (R52). -/
theorem extractLsb'_load64_low (m : Memory) (a : Word) : (load64 m a).extractLsb' 0 32 = load32 m (a + 4#32) :=
  BitVec.extractLsb'_append_eq_right

/-- A load of a pair of words completes with the first word in rd, which is written last, and the second in rt (R505). -/
theorem completes_of_loadPair (he : exec i s =
      loadDouble a s fun v => (s.setX rt (v.extractLsb' 0 32)).setX rd (v.extractLsb' 32 32))
    (ha : s.accessible a 8 = true) : Completes i s [.x rt, .x rd] fun t =>
      (t.getX rd).toNat = bigEndian (s.bytesFrom a 4) ∧
        (rt ≠ rd → (t.getX rt).toNat = bigEndian (s.bytesFrom (a + 4#32) 4)) := by
  refine ⟨_, he.trans (loadDouble_next.2 ⟨ha, rfl⟩), ⟨?_, fun hne => ?_⟩,
    (onlyChanges_setX s rt _).trans (onlyChanges_setX _ rd _)⟩
  · rw [State.getX_setX_same, extractLsb'_load64_high, toNat_load32]
  · rw [State.getX_setX, if_neg hne, State.getX_setX_same, extractLsb'_load64_low, toNat_load32]

/-- Settles O40: each E form means the same as the instruction without E (R484). -/
theorem conditionalStoresSucceedAndPairsLoad : Obligations.ConditionalStoresSucceedAndPairsLoad := by
  intro s rt rd base o9
  refine ⟨fun ha i hi => ?word, fun ha i hi => ?pair, fun ha i hi => ?load⟩
  case word =>
    fin_cases hi
    all_goals exact completes_of_storeWordThenOne rfl ha
  case pair =>
    have hpair : (s.getX rd ++ s.getX rt).toNat = (s.getX rd).toNat * 2 ^ 32 + (s.getX rt).toNat := toNat_append_eq _ _
    rw [← hpair]
    fin_cases hi
    all_goals exact completes_of_storeDoubleThenOne rfl ha
  case load =>
    fin_cases hi
    all_goals exact completes_of_loadPair rfl ha

end ConditionalStores

/-! ### Accesses outside the memory (R57, U6) -/

section Outside
variable {s u : State} {i : Instr} {a : Word} {n : Nat}

/-- A step that cannot fetch is refused (R57). -/
theorem step_of_not_accessible (h : s.accessible s.pc 4 = false) : step s = .refused .outsideMemory := by
  have hbegin : s.begin.accessible s.begin.pc 4 = false := h
  have hfetch : fetchWord s.begin = none := by simp [fetchWord, hbegin]
  have hpass : pass exec false s.begin = .refused .outsideMemory := by simp [pass, hfetch]
  exact stepWith_of_refused hpass

/-- An instruction that goes on only inside the memory is refused outside it (R57). -/
theorem refused_of_not_accessible (h : s.accessible a n = false)
    (he : exec i s = if s.accessible a n then .next u else .refused .outsideMemory) :
    exec i s = .refused .outsideMemory := by
  simpa [h] using he

/-- An instruction of an even pair that goes on only inside the memory is refused outside it (R57). -/
theorem refused_of_pair_not_accessible {r : Reg} (hr : r.toNat % 2 = 0) (h : s.accessible a n = false)
    (he : exec i s = onPairs (evenReg r) (if s.accessible a n then .next u else .refused .outsideMemory)) :
    exec i s = .refused .outsideMemory := by
  simpa [onPairs, (evenReg_iff r).2 hr, h] using he

/-- Settles O17: fetch, load and store each begin with the check of their bytes, and pairs with the check that they are even. -/
theorem accessOutsideMemoryStops : Obligations.AccessOutsideMemoryStops := by
  intro s rt rd base off o9 o11 imm
  refine ⟨step_of_not_accessible, fun h i hi => ?byte16, fun h i hi => ?half16, fun h i hi => ?word16, fun h i hi => ?byte9,
    fun h i hi => ?half9, fun h i hi => ?word9, fun h => refused_of_not_accessible h rfl, fun h i hi => ?word11,
    fun h i hi => ?pairOfWords, fun hr h i hi => ?fpuPair, fun hr h i hi => ?cop2Pair⟩
  case byte16 | half16 | word16 | byte9 | half9 | word9 | word11 | pairOfWords =>
    fin_cases hi
    all_goals exact refused_of_not_accessible h rfl
  case fpuPair | cop2Pair =>
    fin_cases hi
    all_goals exact refused_of_pair_not_accessible hr h rfl

end Outside

/-! ### The state after reset (R590) -/

/-- A register file of zeros reads 0 everywhere. -/
theorem readReg_replicate_zero (r : Reg) : readReg (Vector.replicate 32 0#32) r = 0 := by
  simp [readReg]

/-- The general registers after reset: 29 holds the stack pointer, the others 0 (R590). -/
theorem State.getX_resetWith (m : Memory) (pc sp : Word) (cop : BitVec 2) (p : Params) (r : Reg) :
    (State.resetWith m pc sp cop p).getX r = if r = 29 then sp else 0 := by
  change readReg (writeReg (Vector.replicate 32 0#32) 29 sp) r = _
  rw [readReg_writeReg, readReg_replicate_zero]

/-- Settles O14: every register file but x is all zeros, and the first fetch is at RESET_PC. -/
theorem resetValues : Obligations.ResetValues := by
  intro m pc sp cop p s
  refine ⟨rfl, ?_, fun r hr => ?_, rfl, rfl, rfl, rfl, fun r => ?_, step_of_not_accessible (s := s)⟩
  · rw [State.getX_resetWith, if_pos rfl]
  · rw [State.getX_resetWith, if_neg hr]
  · have hzero := readReg_replicate_zero r
    exact ⟨hzero, hzero, hzero, hzero, hzero⟩

/-! ### Effective addresses and targets (R73, R190, R480) -/

/-- Adding a sign-extended offset is adding its signed value modulo 2^32. -/
theorem add_signExtend_eq_ofInt {w : Nat} (a : Word) (off : BitVec w) :
    a + off.signExtend 32 = BitVec.ofInt 32 (a.toInt + off.toInt) := by
  rw [BitVec.ofInt_add, BitVec.ofInt_toInt]
  rfl

/-- A sign-extended offset in words is four times its signed value modulo 2^32. -/
theorem signExtend_shiftLeft_two_eq_ofInt {w : Nat} (off : BitVec w) :
    off.signExtend 32 <<< 2 = BitVec.ofInt 32 (4 * off.toInt) := by
  rw [BitVec.shiftLeft_eq_mul_twoPow, BitVec.mul_comm, BitVec.ofInt_mul]
  rfl

/-- A branch target: the offset counts words from pc (R190). -/
theorem add_signExtend_shiftLeft_two_eq_ofInt {w : Nat} (a : Word) (off : BitVec w) :
    a + (off.signExtend 32 <<< 2) = BitVec.ofInt 32 (a.toInt + 4 * off.toInt) := by
  rw [BitVec.ofInt_add, BitVec.ofInt_toInt, signExtend_shiftLeft_two_eq_ofInt]

/-- The address relative to the running instruction, whose own address is pc - 4 (R73, R131). -/
theorem State.pcRel19_eq_ofInt (s : State) (imm : BitVec 19) :
    s.pcRel19 imm = BitVec.ofInt 32 (s.pc.toInt - 4 + 4 * imm.toInt) := by
  have haddr : s.addr = BitVec.ofInt 32 (s.pc.toInt - 4) := sub_eq_ofInt s.pc 4#32
  have hoffset : (imm ++ 0#2).toInt = 4 * imm.toInt := BitVec.toInt_append_zero
  rw [State.pcRel19, sext19, add_signExtend_eq_ofInt, hoffset, BitVec.ofInt_add, BitVec.ofInt_add, BitVec.ofInt_toInt, haddr]

/-- The jump target keeps the four top bits of pc and counts words within their region (R190). -/
theorem State.toNat_jumpTarget (s : State) (index : BitVec 26) :
    (s.jumpTarget index).toNat = s.pc.toNat / 2 ^ 28 * 2 ^ 28 + 4 * index.toNat := by
  have hregion : (s.pc.extractLsb' 28 4).toNat = s.pc.toNat / 2 ^ 28 := by
    have hpc := s.pc.isLt
    rw [BitVec.extractLsb'_toNat, Nat.shiftRight_eq_div_pow]
    omega
  rw [State.jumpTarget, toNat_append_eq, toNat_append_eq, hregion, BitVec.toNat_zero]
  ring

/-- Settles O18: sign extension keeps the signed value and a shift by two multiplies it by four, both before the sum wraps. -/
theorem addressesAndTargets : Obligations.AddressesAndTargets := fun s base off o9 o11 i19 o26 =>
  ⟨add_signExtend_eq_ofInt (s.getX base) off, add_signExtend_eq_ofInt (s.getX base) o9,
    add_signExtend_eq_ofInt (s.getX base) o11, s.pcRel19_eq_ofInt i19, add_signExtend_shiftLeft_two_eq_ofInt s.pc off,
    add_signExtend_shiftLeft_two_eq_ofInt s.pc o26, s.toNat_jumpTarget o26⟩

end Sys2Proof.Machine

namespace Sys2Proof

-- One after the other: a thread for each theorem needs more memory than the check allows.
set_option Elab.async false

/-! ### Which decoder answers for a word (R94 to R98)

One lemma for each decoder below the primary opcode: the field values under which it is the one asked. -/

section Selection
variable {w : Word}

theorem decode_special (h : opcodeF w = 0x00#6) : decode w = decodeSpecial w := by simp only [decode, h]
theorem decode_regimm (h : opcodeF w = 0x01#6) : decode w = decodeRegimm w := by simp only [decode, h]
theorem decode_pop06 (h : opcodeF w = 0x06#6) : decode w = decodePop06 w := by simp only [decode, h]
theorem decode_pop07 (h : opcodeF w = 0x07#6) : decode w = decodePop07 w := by simp only [decode, h]
theorem decode_pop10 (h : opcodeF w = 0x08#6) : decode w = decodePop10 w := by simp only [decode, h]
theorem decode_aui (h : opcodeF w = 0x0F#6) : decode w = decodeAui w := by simp only [decode, h]
theorem decode_cop0 (h : opcodeF w = 0x10#6) : decode w = decodeCop0 w := by simp only [decode, h]
theorem decode_cop1 (h : opcodeF w = 0x11#6) : decode w = decodeCop1 w := by simp only [decode, h]
theorem decode_cop2 (h : opcodeF w = 0x12#6) : decode w = decodeCop2 w := by simp only [decode, h]
theorem decode_pop26 (h : opcodeF w = 0x16#6) : decode w = decodePop26 w := by simp only [decode, h]
theorem decode_pop27 (h : opcodeF w = 0x17#6) : decode w = decodePop27 w := by simp only [decode, h]
theorem decode_pop30 (h : opcodeF w = 0x18#6) : decode w = decodePop30 w := by simp only [decode, h]
theorem decode_special2 (h : opcodeF w = 0x1C#6) : decode w = decodeSpecial2 w := by simp only [decode, h]
theorem decode_special3 (h : opcodeF w = 0x1F#6) : decode w = decodeSpecial3 w := by simp only [decode, h]
theorem decode_pop66 (h : opcodeF w = 0x36#6) : decode w = decodePop66 w := by simp only [decode, h]
theorem decode_pcrel (h : opcodeF w = 0x3B#6) : decode w = decodePcrel w := by simp only [decode, h]
theorem decode_pop76 (h : opcodeF w = 0x3E#6) : decode w = decodePop76 w := by simp only [decode, h]

theorem decode_special10 (h : opcodeF w = 0x00#6) (hfn : functF w = 0x10#6) : decode w = decodeSpecial10 w := by
  simp only [decode_special h, decodeSpecial, hfn]
theorem decode_special11 (h : opcodeF w = 0x00#6) (hfn : functF w = 0x11#6) : decode w = decodeSpecial11 w := by
  simp only [decode_special h, decodeSpecial, hfn]
theorem decode_special18 (h : opcodeF w = 0x00#6) (hfn : functF w = 0x18#6) : decode w = decodeSpecial18 w := by
  simp only [decode_special h, decodeSpecial, hfn]
theorem decode_special19 (h : opcodeF w = 0x00#6) (hfn : functF w = 0x19#6) : decode w = decodeSpecial19 w := by
  simp only [decode_special h, decodeSpecial, hfn]
theorem decode_special1A (h : opcodeF w = 0x00#6) (hfn : functF w = 0x1A#6) : decode w = decodeSpecial1A w := by
  simp only [decode_special h, decodeSpecial, hfn]
theorem decode_special1B (h : opcodeF w = 0x00#6) (hfn : functF w = 0x1B#6) : decode w = decodeSpecial1B w := by
  simp only [decode_special h, decodeSpecial, hfn]
theorem decode_bshfl (h : opcodeF w = 0x1F#6) (hfn : functF w = 0x20#6) (ha : alignF w ≠ 0b010#3) :
    decode w = decodeBshfl w := by
  simp only [decode_special3 h, decodeSpecial3, hfn, if_neg ha]
theorem decode_special3Mem (h : opcodeF w = 0x1F#6) (hfn : functF w ∉ [0x00#6, 0x04#6, 0x20#6, 0x3B#6, 0x3D#6]) :
    decode w = decodeSpecial3Mem w := by
  rw [decode_special3 h, decodeSpecial3]
  split <;> simp_all
theorem decode_co (h : opcodeF w = 0x10#6) (hco : coF w = 1) : decode w = decodeCo w := by
  simp only [decode_cop0 h, decodeCop0, if_pos hco]
theorem decode_mfmc0 (h : opcodeF w = 0x10#6) (hco : coF w ≠ 1) (hrs : rsF w = 0x0B#5) : decode w = decodeMfmc0 w := by
  simp only [decode_cop0 h, decodeCop0, if_neg hco, hrs]
theorem decode_fmtS (h : opcodeF w = 0x11#6) (hrs : rsF w = 0x10#5) : decode w = decodeFmtS w := by
  simp only [decode_cop1 h, decodeCop1, hrs]
theorem decode_fmtD (h : opcodeF w = 0x11#6) (hrs : rsF w = 0x11#5) : decode w = decodeFmtD w := by
  simp only [decode_cop1 h, decodeCop1, hrs]
theorem decode_fmtW (h : opcodeF w = 0x11#6) (hrs : rsF w = 0x14#5) : decode w = decodeFmtW w := by
  simp only [decode_cop1 h, decodeCop1, hrs]
theorem decode_fmtL (h : opcodeF w = 0x11#6) (hrs : rsF w = 0x15#5) : decode w = decodeFmtL w := by
  simp only [decode_cop1 h, decodeCop1, hrs]

end Selection

/-! ### The collision groups (R76 to R86)

What a word packed with the primary opcode of a group decodes to, for every rs and rt. -/

section CollisionGroups
variable (rs rt : Reg) (imm : Half)

theorem decode_packI_pop06 : decode (packI 0x06#6 rs rt imm) = if rt = 0 then some (.blez rs imm)
    else if rs = 0 then some (.blezalc rt imm) else if rs = rt then some (.bgezalc rt imm) else some (.bgeuc rs rt imm) := by
  rw [decode_pop06 (opcodeF_packI ..), decodePop06, rsF_packI, rtF_packI, immF_packI]

theorem decode_packI_pop07 : decode (packI 0x07#6 rs rt imm) = if rt = 0 then some (.bgtz rs imm)
    else if rs = 0 then some (.bgtzalc rt imm) else if rs = rt then some (.bltzalc rt imm) else some (.bltuc rs rt imm) := by
  rw [decode_pop07 (opcodeF_packI ..), decodePop07, rsF_packI, rtF_packI, immF_packI]

theorem decode_packI_pop10 : decode (packI 0x08#6 rs rt imm) = if rt = 0 then none else if rt ≤ rs then some (.bovc rs rt imm)
    else if rs = 0 then some (.beqzalc rt imm) else some (.beqc rs rt imm) := by
  rw [decode_pop10 (opcodeF_packI ..), decodePop10, rsF_packI, rtF_packI, immF_packI]

theorem decode_packI_pop30 : decode (packI 0x18#6 rs rt imm) = if rt ≤ rs then some (.bnvc rs rt imm)
    else if rs = 0 then some (.bnezalc rt imm) else some (.bnec rs rt imm) := by
  rw [decode_pop30 (opcodeF_packI ..), decodePop30, rsF_packI, rtF_packI, immF_packI]

theorem decode_packI_pop26 : decode (packI 0x16#6 rs rt imm) = if rt = 0 then none else if rs = 0 then some (.blezc rt imm)
    else if rs = rt then some (.bgezc rt imm) else some (.bgec rs rt imm) := by
  rw [decode_pop26 (opcodeF_packI ..), decodePop26, rsF_packI, rtF_packI, immF_packI]

theorem decode_packI_pop27 : decode (packI 0x17#6 rs rt imm) = if rt = 0 then none else if rs = 0 then some (.bgtzc rt imm)
    else if rs = rt then some (.bltzc rt imm) else some (.bltc rs rt imm) := by
  rw [decode_pop27 (opcodeF_packI ..), decodePop27, rsF_packI, rtF_packI, immF_packI]

theorem decode_packI_pop66 : decode (packI 0x36#6 rs rt imm) = if rt ≠ 0 then some (.jic rt imm)
    else if rs = 0 then none else some (.beqzc rs imm) := by
  rw [decode_pop66 (opcodeF_packI ..), decodePop66, rsF_packI, rtF_packI, immF_packI]

theorem decode_packI_pop76 : decode (packI 0x3E#6 rs rt imm) = if rt ≠ 0 then some (.jialc rt imm)
    else if rs = 0 then none else some (.bnezc rs imm) := by
  rw [decode_pop76 (opcodeF_packI ..), decodePop76, rsF_packI, rtF_packI, immF_packI]

theorem decode_packI_regimm10 :
    decode (packI 0x01#6 rs 0x10#5 imm) = if rs = 0 then some (.nal imm) else some (.bltzal rs imm) := by
  rw [decode_regimm (opcodeF_packI ..), decodeRegimm, rsF_packI, rtF_packI, immF_packI]
  rfl

theorem decode_packI_regimm11 :
    decode (packI 0x01#6 rs 0x11#5 imm) = if rs = 0 then some (.bal imm) else some (.bgezal rs imm) := by
  rw [decode_regimm (opcodeF_packI ..), decodeRegimm, rsF_packI, rtF_packI, immF_packI]
  rfl

theorem decode_packI_aui : decode (packI 0x0F#6 rs rt imm) = if rs = 0 then some (.lui rt imm) else some (.aui rt rs imm) := by
  rw [decode_aui (opcodeF_packI ..), decodeAui, rsF_packI, rtF_packI, immF_packI]

end CollisionGroups

/-- Settles O3: each group's decoder reads the two register fields and asks for its rules in the same order. -/
theorem collisionGroupsFollowTheirRules : Obligations.CollisionGroupsFollowTheirRules := fun rs rt imm =>
  ⟨decode_packI_pop06 rs rt imm, decode_packI_pop07 rs rt imm, decode_packI_pop10 rs rt imm, decode_packI_pop30 rs rt imm,
    decode_packI_pop26 rs rt imm, decode_packI_pop27 rs rt imm, decode_packI_pop66 rs rt imm, decode_packI_pop76 rs rt imm,
    decode_packI_regimm10 rs imm, decode_packI_regimm11 rs imm, decode_packI_aui rs rt imm⟩

/-! ### Decoding what the encoder packs (R72, R74)

A field that shares its bits with a selector is packed beside constant bits. -/

theorem extractLsb'_append_low {m n : Nat} (a : BitVec m) (b : BitVec n) : (a ++ b).extractLsb' 0 n = b := by grind
theorem extractLsb'_append_high {m n : Nat} (a : BitVec m) (b : BitVec n) : (a ++ b).extractLsb' n m = a := by grind
theorem extractLsb'_append_mid {l m n : Nat} (a : BitVec l) (b : BitVec m) (c : BitVec n) :
    (a ++ b ++ c).extractLsb' n m = b := by grind

/-- The last two rules of a group whose rules are rt = 0, rs = 0, rs = rt and the rest (R76, R77, R80, R81). -/
theorem equalFields_rule {α : Type} {a b c d : α} {r : Reg} (h : r ≠ 0) :
    (if r = 0 then a else if r = 0 then b else if r = r then c else d) = c := by
  rw [if_neg h, if_neg h, if_pos rfl]
theorem distinctFields_rule {α : Type} {a b c d : α} {rs rt : Reg} (h : rs ≠ rt ∧ rs ≠ 0 ∧ rt ≠ 0) :
    (if rt = 0 then a else if rs = 0 then b else if rs = rt then c else d) = d := by
  obtain ⟨hne, hrs, hrt⟩ := h
  rw [if_neg hrt, if_neg hrs, if_neg hne]

/-- The split over the instructions, grouped by the decoder that answers for their words: it is found by the constant fields, and
reads the operands back from where the encoder packed them. -/
theorem decode_encode {i : Instr} (h : wellFormed i = true) : decode (encode i) = some i := by
  cases i with
  -- SPECIAL (R95).
  | add | addu | sub | subu | and | or | xor | nor | slt | sltu | seleqz | selnez | sll | srl | sra | sllv | srlv | srav |
    rotr | rotrv | mflo | mtlo | jr | jalr | sync =>
    change decode (packR _ _ _ _ _ _) = _
    rw [decode_special (opcodeF_packR ..), decodeSpecial, functF_packR, rsF_packR, rtF_packR, rdF_packR, saF_packR,
      bit21F_packR, bit6F_packR]
    rfl
  | lsa =>
    change decode (packR _ _ _ _ _ _) = _
    rw [decode_special (opcodeF_packR ..), decodeSpecial, functF_packR, rsF_packR, rtF_packR, rdF_packR, posF_packR,
      extractLsb'_append_low]
    rfl
  | tge | tgeu | tlt | tltu | teq | tne =>
    change decode (packCode10 _ _ _ _) = _
    rw [decode_special (opcodeF_packCode10 ..), decodeSpecial, functF_packCode10, rsF_packCode10, rtF_packCode10,
      code10F_packCode10]
    rfl
  | brk | syscall | sdbbp =>
    change decode (packCode20 _ _) = _
    rw [decode_special (opcodeF_packCode20 ..), decodeSpecial, functF_packCode20, code20F_packCode20]
    rfl
  | clz | mfhi =>
    change decode (packR _ _ _ _ _ _) = _
    rw [decode_special10 (opcodeF_packR ..) (functF_packR ..), decodeSpecial10, saF_packR, rsF_packR, rdF_packR]
    rfl
  | clo | mthi =>
    change decode (packR _ _ _ _ _ _) = _
    rw [decode_special11 (opcodeF_packR ..) (functF_packR ..), decodeSpecial11, saF_packR, rsF_packR, rdF_packR]
    rfl
  | mult | mul | muh =>
    change decode (packR _ _ _ _ _ _) = _
    rw [decode_special18 (opcodeF_packR ..) (functF_packR ..), decodeSpecial18, saF_packR, rsF_packR, rtF_packR, rdF_packR]
    rfl
  | multu | mulu | muhu =>
    change decode (packR _ _ _ _ _ _) = _
    rw [decode_special19 (opcodeF_packR ..) (functF_packR ..), decodeSpecial19, saF_packR, rsF_packR, rtF_packR, rdF_packR]
    rfl
  | div | divR6 | mod =>
    change decode (packR _ _ _ _ _ _) = _
    rw [decode_special1A (opcodeF_packR ..) (functF_packR ..), decodeSpecial1A, saF_packR, rsF_packR, rtF_packR, rdF_packR]
    rfl
  | divu | divuR6 | modu =>
    change decode (packR _ _ _ _ _ _) = _
    rw [decode_special1B (opcodeF_packR ..) (functF_packR ..), decodeSpecial1B, saF_packR, rsF_packR, rtF_packR, rdF_packR]
    rfl
  -- REGIMM, the jumps and the other immediates (R94, R96).
  | bltz | bgez | sigrie | synci | nal | bal =>
    change decode (packI _ _ _ _) = _
    rw [decode_regimm (opcodeF_packI ..), decodeRegimm, rsF_packI, rtF_packI, immF_packI]
    rfl
  | j | jal | bc | balc =>
    change decode (packJ _ _) = _
    rw [decode, opcodeF_packJ, indexF_packJ]
    rfl
  | addiu | andi | ori | xori | slti | sltiu | beq | bne | lb | lbu | lh | lhu | lw | sb | sh | sw | lwc1 | swc1 | ldc1 |
    sdc1 =>
    change decode (packI _ _ _ _) = _
    rw [decode, opcodeF_packI, rsF_packI, rtF_packI, immF_packI]
    rfl
  -- The collision groups: the register-field rule is what well-formedness says (R76 to R85).
  | lui rt imm => exact decode_packI_aui 0 rt imm
  | aui rt rs imm => exact (decode_packI_aui rs rt imm).trans (if_neg (of_decide_eq_true h))
  | bltzal rs imm => exact (decode_packI_regimm10 rs imm).trans (if_neg (of_decide_eq_true h))
  | bgezal rs imm => exact (decode_packI_regimm11 rs imm).trans (if_neg (of_decide_eq_true h))
  | blez rs imm => exact decode_packI_pop06 rs 0 imm
  | bgtz rs imm => exact decode_packI_pop07 rs 0 imm
  | blezalc rt imm => exact (decode_packI_pop06 0 rt imm).trans (if_neg (of_decide_eq_true h))
  | bgtzalc rt imm => exact (decode_packI_pop07 0 rt imm).trans (if_neg (of_decide_eq_true h))
  | blezc rt imm => exact (decode_packI_pop26 0 rt imm).trans (if_neg (of_decide_eq_true h))
  | bgtzc rt imm => exact (decode_packI_pop27 0 rt imm).trans (if_neg (of_decide_eq_true h))
  | bgezalc rt imm => exact (decode_packI_pop06 rt rt imm).trans (equalFields_rule (of_decide_eq_true h))
  | bltzalc rt imm => exact (decode_packI_pop07 rt rt imm).trans (equalFields_rule (of_decide_eq_true h))
  | bgezc rt imm => exact (decode_packI_pop26 rt rt imm).trans (equalFields_rule (of_decide_eq_true h))
  | bltzc rt imm => exact (decode_packI_pop27 rt rt imm).trans (equalFields_rule (of_decide_eq_true h))
  | bgeuc rs rt imm => exact (decode_packI_pop06 rs rt imm).trans (distinctFields_rule (of_decide_eq_true h))
  | bltuc rs rt imm => exact (decode_packI_pop07 rs rt imm).trans (distinctFields_rule (of_decide_eq_true h))
  | bgec rs rt imm => exact (decode_packI_pop26 rs rt imm).trans (distinctFields_rule (of_decide_eq_true h))
  | bltc rs rt imm => exact (decode_packI_pop27 rs rt imm).trans (distinctFields_rule (of_decide_eq_true h))
  | bovc rs rt imm =>
    obtain ⟨hle, hrt⟩ : rt ≤ rs ∧ rt ≠ 0 := of_decide_eq_true h
    refine (decode_packI_pop10 rs rt imm).trans ?_
    rw [if_neg hrt, if_pos hle]
  | bnvc rs rt imm => exact (decode_packI_pop30 rs rt imm).trans (if_pos (of_decide_eq_true h))
  | beqzalc rt imm =>
    have hrt : rt ≠ 0 := of_decide_eq_true h
    refine (decode_packI_pop10 0 rt imm).trans ?_
    rw [if_neg hrt, if_neg (by simpa using hrt), if_pos rfl]
  | bnezalc rt imm =>
    have hrt : rt ≠ 0 := of_decide_eq_true h
    refine (decode_packI_pop30 0 rt imm).trans ?_
    rw [if_neg (by simpa using hrt), if_pos rfl]
  | beqc rs rt imm =>
    obtain ⟨hrs, hlt⟩ : rs ≠ 0 ∧ rs < rt := of_decide_eq_true h
    refine (decode_packI_pop10 rs rt imm).trans ?_
    rw [if_neg (show ¬ rt = 0 by bv_omega), if_neg (BitVec.not_le.2 hlt), if_neg hrs]
  | bnec rs rt imm =>
    obtain ⟨hrs, hlt⟩ : rs ≠ 0 ∧ rs < rt := of_decide_eq_true h
    refine (decode_packI_pop30 rs rt imm).trans ?_
    rw [if_neg (BitVec.not_le.2 hlt), if_neg hrs]
  | jic rt imm => exact (decode_packI_pop66 0 rt imm).trans (if_pos (of_decide_eq_true h))
  | jialc rt imm => exact (decode_packI_pop76 0 rt imm).trans (if_pos (of_decide_eq_true h))
  | beqzc rs imm => exact (decode_packI_pop66 rs 0 imm).trans (if_neg (of_decide_eq_true h))
  | bnezc rs imm => exact (decode_packI_pop76 rs 0 imm).trans (if_neg (of_decide_eq_true h))
  -- SPECIAL2, SPECIAL3 and PCREL (R96, R97).
  | madd | maddu | msub | msubu =>
    change decode (packR _ _ _ _ _ _) = _
    rw [decode_special2 (opcodeF_packR ..), decodeSpecial2, functF_packR, rsF_packR, rtF_packR]
    rfl
  | ext | ins | rdhwr =>
    change decode (packR _ _ _ _ _ _) = _
    rw [decode_special3 (opcodeF_packR ..), decodeSpecial3, functF_packR, rsF_packR, rtF_packR, rdF_packR, saF_packR]
    rfl
  | align =>
    change decode (packR _ _ _ _ _ _) = _
    rw [decode_special3 (opcodeF_packR ..), decodeSpecial3, functF_packR, alignF_packR, rsF_packR, rtF_packR, rdF_packR,
      posF_packR, extractLsb'_append_low, extractLsb'_append_high]
    rfl
  | ginvi | ginvt =>
    change decode (packR _ _ _ _ _ _) = _
    rw [decode_special3 (opcodeF_packR ..), decodeSpecial3, functF_packR, posF_packR, rsF_packR, typeF_packR,
      extractLsb'_append_low, extractLsb'_append_mid]
    rfl
  | seb | seh | wsbh | bitswap =>
    change decode (packR _ _ _ _ _ _) = _
    rw [decode_bshfl (opcodeF_packR ..) (functF_packR ..) (by rw [alignF_packR]; decide), decodeBshfl, saF_packR, rdF_packR,
      rtF_packR]
    rfl
  | pref | prefe | cache | cachee | lbe | lbue | lhe | lhue | lwe | sbe | she | swe | ll | sc | lle | sce =>
    change decode (packMem9 _ _ _ _) = _
    rw [decode_special3Mem (opcodeF_packMem9 ..) (by rw [functF_packMem9]; decide), decodeSpecial3Mem, funct7F_packMem9,
      rsF_packMem9, rtF_packMem9, off9F_packMem9]
    rfl
  | llwp | scwp | llwpe | scwpe =>
    change decode (packMem9 _ _ _ _) = _
    rw [decode_special3Mem (opcodeF_packMem9 ..) (by rw [functF_packMem9]; decide), decodeSpecial3Mem, funct7F_packMem9,
      rsF_packMem9, rtF_packMem9, rdF_packMem9, extractLsb'_append_high]
    rfl
  | addiupc | lwpc =>
    change decode (packPc19 _ _ _) = _
    rw [decode_pcrel (opcodeF_packPc19 ..), decodePcrel, pcrelF_packPc19, rsF_packPc19, imm19F_packPc19]
    rfl
  | auipc | aluipc =>
    change decode (packI _ _ _ _) = _
    rw [decode_pcrel (opcodeF_packI ..), decodePcrel, pcrelF_packI, rsF_packI, rtF_packI, immF_packI]
    rfl
  -- The coprocessors (R98).
  | eret | eretnc | deret | wait | tlbr | tlbwi | tlbinv | tlbinvf | tlbwr | tlbp =>
    change decode (packR _ _ _ _ _ _) = _
    rw [decode_co (opcodeF_packR ..) (coF_packR ..), decodeCo, functF_packR, bit6F_packR]
    rfl
  | di | ei | dvp | evp =>
    change decode (packI _ _ _ _) = _
    rw [decode_mfmc0 (opcodeF_packI ..) (by rw [coF_packI]; decide) (rsF_packI ..), decodeMfmc0, rtF_packI, immF_packI]
    rfl
  | rdpgpr | wrpgpr =>
    change decode (packR _ _ _ _ _ _) = _
    rw [decode_cop0 (opcodeF_packR ..), decodeCop0, coF_packR, rsF_packR, rtF_packR, rdF_packR]
    rfl
  | mfc1 | mtc1 | mfhc1 | mthc1 | cfc1 | ctc1 =>
    change decode (packR _ _ _ _ _ _) = _
    rw [decode_cop1 (opcodeF_packR ..), decodeCop1, rsF_packR, rtF_packR, rdF_packR]
    rfl
  | bc1eqz | bc1nez =>
    change decode (packI _ _ _ _) = _
    rw [decode_cop1 (opcodeF_packI ..), decodeCop1, rsF_packI, rtF_packI, immF_packI]
    rfl
  | addS | subS | mulS | divS | sqrtS | absS | movS | negS | recipS | rsqrtS | maddfS | msubfS | rintS | classS | minS | minaS |
    maxS | maxaS | selS | seleqzS | selnezS | cvtDS | cvtWS | cvtLS | roundWS | roundLS | truncWS | truncLS | ceilWS | ceilLS |
    floorWS | floorLS =>
    change decode (packR _ _ _ _ _ _) = _
    rw [decode_fmtS (opcodeF_packR ..) (rsF_packR ..), decodeFmtS, functF_packR, rtF_packR, rdF_packR, saF_packR]
    rfl
  | addD | subD | mulD | divD | sqrtD | absD | movD | negD | recipD | rsqrtD | maddfD | msubfD | rintD | classD | minD | minaD |
    maxD | maxaD | selD | seleqzD | selnezD | cvtSD | cvtWD | cvtLD | roundWD | roundLD | truncWD | truncLD | ceilWD | ceilLD |
    floorWD | floorLD =>
    change decode (packR _ _ _ _ _ _) = _
    rw [decode_fmtD (opcodeF_packR ..) (rsF_packR ..), decodeFmtD, functF_packR, rtF_packR, rdF_packR, saF_packR]
    rfl
  | cmpAfS | cmpUnS | cmpEqS | cmpUeqS | cmpLtS | cmpUltS | cmpLeS | cmpUleS | cmpSafS | cmpSunS | cmpSeqS | cmpSueqS |
    cmpSltS | cmpSultS | cmpSleS | cmpSuleS | cmpOrS | cmpUneS | cmpNeS | cmpSorS | cmpSuneS | cmpSneS | cvtSW | cvtDW =>
    change decode (packR _ _ _ _ _ _) = _
    rw [decode_fmtW (opcodeF_packR ..) (rsF_packR ..), decodeFmtW, functF_packR, rtF_packR, rdF_packR, saF_packR]
    rfl
  | cmpAfD | cmpUnD | cmpEqD | cmpUeqD | cmpLtD | cmpUltD | cmpLeD | cmpUleD | cmpSafD | cmpSunD | cmpSeqD | cmpSueqD |
    cmpSltD | cmpSultD | cmpSleD | cmpSuleD | cmpOrD | cmpUneD | cmpNeD | cmpSorD | cmpSuneD | cmpSneD | cvtSL | cvtDL =>
    change decode (packR _ _ _ _ _ _) = _
    rw [decode_fmtL (opcodeF_packR ..) (rsF_packR ..), decodeFmtL, functF_packR, rtF_packR, rdF_packR, saF_packR]
    rfl
  | mfc2 | mtc2 | mfhc2 | mthc2 | cfc2 | ctc2 =>
    change decode (packR _ _ _ _ _ _) = _
    rw [decode_cop2 (opcodeF_packR ..), decodeCop2, rsF_packR, rtF_packR, rdF_packR]
    rfl
  | bc2eqz | bc2nez =>
    change decode (packI _ _ _ _) = _
    rw [decode_cop2 (opcodeF_packI ..), decodeCop2, rsF_packI, rtF_packI, immF_packI]
    rfl
  | lwc2 | swc2 | ldc2 | sdc2 =>
    change decode (packMem11 _ _ _ _) = _
    rw [decode_cop2 (opcodeF_packMem11 ..), decodeCop2, rsF_packMem11, rtF_packMem11, base11_packMem11, off11F_packMem11]
    rfl

/-- Settles O1, by the split over the instructions in `decode_encode`. -/
theorem decodeEncodeRoundTrip : Obligations.DecodeEncodeRoundTrip := fun _ h => decode_encode h

/-! ### The fixed bits of a row from the fields of the word (R72, R74)

One lemma for each mask of the opcode table: the selecting fields of a word fix what is left of it under the mask. -/

section FixedBits
variable {w : Word} {op fn : BitVec 6} {rs rt sa : Reg} {imm : Half} {fn7 : BitVec 7} {align : BitVec 3} {pos sel : BitVec 2}
  {bit co : BitVec 1} {bits : Word}

/-- A word is its six fields of layout `R`. -/
theorem eq_packR (w : Word) : w = packR (opcodeF w) (rsF w) (rtF w) (rdF w) (saF w) (functF w) := by
  unfold packR opcodeF rsF rtF rdF saF functF
  grind

/-- A word is its four fields of layout `I`. -/
theorem eq_packI (w : Word) : w = packI (opcodeF w) (rsF w) (rtF w) (immF w) := by
  unfold packI opcodeF rsF rtF immF
  grind

theorem and_ones5 (r : BitVec 5) : r &&& 0x1F#5 = r := BitVec.and_allOnes
theorem and_ones6 (r : BitVec 6) : r &&& 0x3F#6 = r := BitVec.and_allOnes
theorem and_ones16 (r : BitVec 16) : r &&& 0xFFFF#16 = r := BitVec.and_allOnes

/-! The selectors that are a part of a register field. -/

theorem rsF_and_bit21 : rsF w &&& 0x1#5 = 0#4 ++ bit21F w := by
  have hbits : ∀ r : Reg, r &&& 0x1#5 = 0#4 ++ r.extractLsb' 0 1 := by decide
  rw [hbits, eq_packR w, bit21F_packR, rsF_packR]
theorem rsF_and_bit25 : rsF w &&& 0x10#5 = coF w ++ 0#4 := by
  have hbits : ∀ r : Reg, r &&& 0x10#5 = r.extractLsb' 4 1 ++ 0#4 := by decide
  rw [hbits, eq_packR w, coF_packR, rsF_packR]
theorem rtF_and_pcrel : rtF w &&& 0x18#5 = pcrelF w ++ 0#3 := by
  have hbits : ∀ r : Reg, r &&& 0x18#5 = r.extractLsb' 3 2 ++ 0#3 := by decide
  rw [hbits, eq_packR w, pcrelF_packR, rtF_packR]
theorem saF_and_bit6 : saF w &&& 0x1#5 = 0#4 ++ bit6F w := by
  have hbits : ∀ r : Reg, r &&& 0x1#5 = 0#4 ++ r.extractLsb' 0 1 := by decide
  rw [hbits, eq_packR w, bit6F_packR, saF_packR]
theorem saF_and_pos : saF w &&& 0x3#5 = 0#3 ++ posF w := by
  have hbits : ∀ r : Reg, r &&& 0x3#5 = 0#3 ++ r.extractLsb' 0 2 := by decide
  rw [hbits, eq_packR w, posF_packR, saF_packR]
theorem saF_and_align : saF w &&& 0x1C#5 = alignF w ++ 0#2 := by
  have hbits : ∀ r : Reg, r &&& 0x1C#5 = r.extractLsb' 2 3 ++ 0#2 := by decide
  rw [hbits, eq_packR w, alignF_packR, saF_packR]
theorem funct7F_eq_append : funct7F w = bit6F w ++ functF w := by
  rw [eq_packR w, funct7F_packR, bit6F_packR, functF_packR]

/-- The fixed bits of a word, field by field. -/
theorem and_mask_eq {mask : Word} (m0 m1 m2 m3 m4 m5) (hm : m0 ++ m1 ++ m2 ++ m3 ++ m4 ++ m5 = mask)
    (hb : packR (opcodeF w &&& m0) (rsF w &&& m1) (rtF w &&& m2) (rdF w &&& m3) (saF w &&& m4) (functF w &&& m5) = bits) :
    w &&& mask = bits := by
  rw [eq_packR w]
  exact packR_row m0 m1 m2 m3 m4 m5 hm hb

theorem and_mask_opcode (h : opcodeF w = op)
    (hb : packR op 0#5 0#5 0#5 0#5 0#6 = bits) : w &&& 0xFC000000#32 = bits :=
  and_mask_eq 0x3F#6 0#5 0#5 0#5 0#5 0#6 (by decide)
    (by simp only [h, and_ones6, BitVec.and_zero]; exact hb)
theorem and_mask_opcode_rs (h : opcodeF w = op) (hrs : rsF w = rs)
    (hb : packR op rs 0#5 0#5 0#5 0#6 = bits) : w &&& 0xFFE00000#32 = bits :=
  and_mask_eq 0x3F#6 0x1F#5 0#5 0#5 0#5 0#6 (by decide)
    (by simp only [h, hrs, and_ones6, and_ones5, BitVec.and_zero]; exact hb)
theorem and_mask_opcode_rt (h : opcodeF w = op) (hrt : rtF w = rt)
    (hb : packR op 0#5 rt 0#5 0#5 0#6 = bits) : w &&& 0xFC1F0000#32 = bits :=
  and_mask_eq 0x3F#6 0#5 0x1F#5 0#5 0#5 0#6 (by decide)
    (by simp only [h, hrt, and_ones6, and_ones5, BitVec.and_zero]; exact hb)
theorem and_mask_opcode_pcrel (h : opcodeF w = op) (hsel : pcrelF w = sel)
    (hb : packR op 0#5 (sel ++ 0#3) 0#5 0#5 0#6 = bits) : w &&& 0xFC180000#32 = bits :=
  and_mask_eq 0x3F#6 0#5 0x18#5 0#5 0#5 0#6 (by decide)
    (by simp only [h, hsel, rtF_and_pcrel, and_ones6, BitVec.and_zero]; exact hb)
theorem and_mask_opcode_funct (h : opcodeF w = op) (hfn : functF w = fn)
    (hb : packR op 0#5 0#5 0#5 0#5 fn = bits) : w &&& 0xFC00003F#32 = bits :=
  and_mask_eq 0x3F#6 0#5 0#5 0#5 0#5 0x3F#6 (by decide)
    (by simp only [h, hfn, and_ones6, BitVec.and_zero]; exact hb)
theorem and_mask_opcode_rs_funct (h : opcodeF w = op) (hrs : rsF w = rs) (hfn : functF w = fn)
    (hb : packR op rs 0#5 0#5 0#5 fn = bits) : w &&& 0xFFE0003F#32 = bits :=
  and_mask_eq 0x3F#6 0x1F#5 0#5 0#5 0#5 0x3F#6 (by decide)
    (by simp only [h, hrs, hfn, and_ones6, and_ones5, BitVec.and_zero]; exact hb)
theorem and_mask_opcode_sa_funct (h : opcodeF w = op) (hsa : saF w = sa) (hfn : functF w = fn)
    (hb : packR op 0#5 0#5 0#5 sa fn = bits) : w &&& 0xFC0007FF#32 = bits :=
  and_mask_eq 0x3F#6 0#5 0#5 0#5 0x1F#5 0x3F#6 (by decide)
    (by simp only [h, hsa, hfn, and_ones6, and_ones5, BitVec.and_zero]; exact hb)
theorem and_mask_opcode_bit21_funct (h : opcodeF w = op) (hbit : bit21F w = bit) (hfn : functF w = fn)
    (hb : packR op (0#4 ++ bit) 0#5 0#5 0#5 fn = bits) : w &&& 0xFC20003F#32 = bits :=
  and_mask_eq 0x3F#6 0x1#5 0#5 0#5 0#5 0x3F#6 (by decide)
    (by simp only [h, hbit, hfn, rsF_and_bit21, and_ones6, BitVec.and_zero]; exact hb)
theorem and_mask_opcode_bit6_funct (h : opcodeF w = op) (hbit : bit6F w = bit) (hfn : functF w = fn)
    (hb : packR op 0#5 0#5 0#5 (0#4 ++ bit) fn = bits) : w &&& 0xFC00007F#32 = bits :=
  and_mask_eq 0x3F#6 0#5 0#5 0#5 0x1#5 0x3F#6 (by decide)
    (by simp only [h, hbit, hfn, saF_and_bit6, and_ones6, BitVec.and_zero]; exact hb)
theorem and_mask_opcode_pos_funct (h : opcodeF w = op) (hpos : posF w = pos) (hfn : functF w = fn)
    (hb : packR op 0#5 0#5 0#5 (0#3 ++ pos) fn = bits) : w &&& 0xFC0000FF#32 = bits :=
  and_mask_eq 0x3F#6 0#5 0#5 0#5 0x3#5 0x3F#6 (by decide)
    (by simp only [h, hpos, hfn, saF_and_pos, and_ones6, BitVec.and_zero]; exact hb)
theorem and_mask_opcode_align_funct (h : opcodeF w = op) (halign : alignF w = align) (hfn : functF w = fn)
    (hb : packR op 0#5 0#5 0#5 (align ++ 0#2) fn = bits) : w &&& 0xFC00073F#32 = bits :=
  and_mask_eq 0x3F#6 0#5 0#5 0#5 0x1C#5 0x3F#6 (by decide)
    (by simp only [h, halign, hfn, saF_and_align, and_ones6, BitVec.and_zero]; exact hb)
theorem and_mask_opcode_co_funct (h : opcodeF w = op) (hco : coF w = co) (hfn : functF w = fn)
    (hb : packR op (co ++ 0#4) 0#5 0#5 0#5 fn = bits) : w &&& 0xFE00003F#32 = bits :=
  and_mask_eq 0x3F#6 0x10#5 0#5 0#5 0#5 0x3F#6 (by decide)
    (by simp only [h, hco, hfn, rsF_and_bit25, and_ones6, BitVec.and_zero]; exact hb)
theorem and_mask_opcode_co_bit6_funct (h : opcodeF w = op) (hco : coF w = co) (hbit : bit6F w = bit) (hfn : functF w = fn)
    (hb : packR op (co ++ 0#4) 0#5 0#5 (0#4 ++ bit) fn = bits) : w &&& 0xFE00007F#32 = bits :=
  and_mask_eq 0x3F#6 0x10#5 0#5 0#5 0x1#5 0x3F#6 (by decide)
    (by simp only [h, hco, hbit, hfn, rsF_and_bit25, saF_and_bit6, and_ones6, BitVec.and_zero]; exact hb)

/-- The function code with bit 6 is the selector of the memory rows of SPECIAL3 (R97). -/
theorem and_mask_opcode_funct7 (h : opcodeF w = op) (hfn : funct7F w = fn7)
    (hb : packR op 0#5 0#5 0#5 (0#4 ++ fn7.extractLsb' 6 1) (fn7.extractLsb' 0 6) = bits) : w &&& 0xFC00007F#32 = bits := by
  rw [← hfn, funct7F_eq_append, extractLsb'_append_high, extractLsb'_append_low] at hb
  exact and_mask_opcode_bit6_funct h rfl rfl hb

theorem and_mask_opcode_rs_imm (h : opcodeF w = op) (hrs : rsF w = rs) (himm : immF w = imm)
    (hb : packI op rs 0#5 imm = bits) : w &&& 0xFFE0FFFF#32 = bits := by
  rw [eq_packI w]
  exact packI_row 0x3F#6 0x1F#5 0#5 0xFFFF#16 (by decide)
    (by simp only [h, hrs, himm, and_ones5, and_ones6, and_ones16, BitVec.and_zero]; exact hb)

end FixedBits

/-! ### What the decoder answers fits its row (R74)

One lemma for each decoder: in every branch the selecting fields are the fixed bits of the row that the branch answers with. -/

/-- The register-field rule of the row holds and the word has the row's fixed bits (R74). -/
def FitsRow (w : Word) (i : Instr) : Prop := wellFormed i = true ∧ w &&& (rowOf i).mask = (rowOf i).bits

section Fits
variable {w : Word} {i : Instr}

theorem bit_eq_one {b : BitVec 1} (h : ¬ b = 0) : b = 1 := by
  revert b
  decide

theorem fitsRow_of_decodeSpecial10 (hop : opcodeF w = 0x00#6) (hfn : functF w = 0x10#6) (h : decodeSpecial10 w = some i) :
    FitsRow w i := by
  unfold decodeSpecial10 at h
  split at h <;> cases h <;> exact ⟨rfl, and_mask_opcode_sa_funct hop ‹_› hfn rfl⟩

theorem fitsRow_of_decodeSpecial11 (hop : opcodeF w = 0x00#6) (hfn : functF w = 0x11#6) (h : decodeSpecial11 w = some i) :
    FitsRow w i := by
  unfold decodeSpecial11 at h
  split at h <;> cases h <;> exact ⟨rfl, and_mask_opcode_sa_funct hop ‹_› hfn rfl⟩

theorem fitsRow_of_decodeSpecial18 (hop : opcodeF w = 0x00#6) (hfn : functF w = 0x18#6) (h : decodeSpecial18 w = some i) :
    FitsRow w i := by
  unfold decodeSpecial18 at h
  split at h <;> cases h <;> exact ⟨rfl, and_mask_opcode_sa_funct hop ‹_› hfn rfl⟩

theorem fitsRow_of_decodeSpecial19 (hop : opcodeF w = 0x00#6) (hfn : functF w = 0x19#6) (h : decodeSpecial19 w = some i) :
    FitsRow w i := by
  unfold decodeSpecial19 at h
  split at h <;> cases h <;> exact ⟨rfl, and_mask_opcode_sa_funct hop ‹_› hfn rfl⟩

theorem fitsRow_of_decodeSpecial1A (hop : opcodeF w = 0x00#6) (hfn : functF w = 0x1A#6) (h : decodeSpecial1A w = some i) :
    FitsRow w i := by
  unfold decodeSpecial1A at h
  split at h <;> cases h <;> exact ⟨rfl, and_mask_opcode_sa_funct hop ‹_› hfn rfl⟩

theorem fitsRow_of_decodeSpecial1B (hop : opcodeF w = 0x00#6) (hfn : functF w = 0x1B#6) (h : decodeSpecial1B w = some i) :
    FitsRow w i := by
  unfold decodeSpecial1B at h
  split at h <;> cases h <;> exact ⟨rfl, and_mask_opcode_sa_funct hop ‹_› hfn rfl⟩

theorem fitsRow_of_decodeSpecial (hop : opcodeF w = 0x00#6) (h : decodeSpecial w = some i) : FitsRow w i := by
  unfold decodeSpecial at h
  split at h
  case h_2 hfn =>
    split at h
    case isTrue hbit => cases h; exact ⟨rfl, and_mask_opcode_bit21_funct hop hbit hfn rfl⟩
    case isFalse hbit => cases h; exact ⟨rfl, and_mask_opcode_bit21_funct hop (bit_eq_one hbit) hfn rfl⟩
  case h_6 hfn =>
    split at h
    case isTrue hbit => cases h; exact ⟨rfl, and_mask_opcode_bit6_funct hop hbit hfn rfl⟩
    case isFalse hbit => cases h; exact ⟨rfl, and_mask_opcode_bit6_funct hop (bit_eq_one hbit) hfn rfl⟩
  case h_14 hfn => exact fitsRow_of_decodeSpecial10 hop hfn h
  case h_15 hfn => exact fitsRow_of_decodeSpecial11 hop hfn h
  case h_18 hfn => exact fitsRow_of_decodeSpecial18 hop hfn h
  case h_19 hfn => exact fitsRow_of_decodeSpecial19 hop hfn h
  case h_20 hfn => exact fitsRow_of_decodeSpecial1A hop hfn h
  case h_21 hfn => exact fitsRow_of_decodeSpecial1B hop hfn h
  all_goals cases h
  all_goals exact ⟨rfl, and_mask_opcode_funct hop ‹_› rfl⟩

theorem fitsRow_of_decodeRegimm (hop : opcodeF w = 0x01#6) (h : decodeRegimm w = some i) : FitsRow w i := by
  unfold decodeRegimm at h
  split at h
  case h_3 hrt =>
    split at h
    case isTrue => cases h; exact ⟨rfl, and_mask_opcode_rt hop hrt rfl⟩
    case isFalse hrs => cases h; exact ⟨decide_eq_true hrs, and_mask_opcode_rt hop hrt rfl⟩
  case h_4 hrt =>
    split at h
    case isTrue => cases h; exact ⟨rfl, and_mask_opcode_rt hop hrt rfl⟩
    case isFalse hrs => cases h; exact ⟨decide_eq_true hrs, and_mask_opcode_rt hop hrt rfl⟩
  all_goals cases h
  all_goals exact ⟨rfl, and_mask_opcode_rt hop ‹_› rfl⟩

theorem fitsRow_of_decodePop06 (hop : opcodeF w = 0x06#6) (h : decodePop06 w = some i) : FitsRow w i := by
  unfold decodePop06 at h
  split_ifs at h with hrt hrs heq <;> cases h
  · exact ⟨rfl, and_mask_opcode hop rfl⟩
  · exact ⟨decide_eq_true hrt, and_mask_opcode hop rfl⟩
  · exact ⟨decide_eq_true hrt, and_mask_opcode hop rfl⟩
  · exact ⟨decide_eq_true ⟨heq, hrs, hrt⟩, and_mask_opcode hop rfl⟩

theorem fitsRow_of_decodePop07 (hop : opcodeF w = 0x07#6) (h : decodePop07 w = some i) : FitsRow w i := by
  unfold decodePop07 at h
  split_ifs at h with hrt hrs heq <;> cases h
  · exact ⟨rfl, and_mask_opcode hop rfl⟩
  · exact ⟨decide_eq_true hrt, and_mask_opcode hop rfl⟩
  · exact ⟨decide_eq_true hrt, and_mask_opcode hop rfl⟩
  · exact ⟨decide_eq_true ⟨heq, hrs, hrt⟩, and_mask_opcode hop rfl⟩

theorem fitsRow_of_decodePop10 (hop : opcodeF w = 0x08#6) (h : decodePop10 w = some i) : FitsRow w i := by
  unfold decodePop10 at h
  split_ifs at h with hrt hle hrs <;> cases h
  · exact ⟨decide_eq_true ⟨hle, hrt⟩, and_mask_opcode hop rfl⟩
  · exact ⟨decide_eq_true hrt, and_mask_opcode hop rfl⟩
  · exact ⟨decide_eq_true ⟨hrs, BitVec.not_le.1 hle⟩, and_mask_opcode hop rfl⟩

theorem fitsRow_of_decodePop30 (hop : opcodeF w = 0x18#6) (h : decodePop30 w = some i) : FitsRow w i := by
  unfold decodePop30 at h
  split_ifs at h with hle hrs <;> cases h
  · exact ⟨decide_eq_true hle, and_mask_opcode hop rfl⟩
  · exact ⟨decide_eq_true fun hrt => hle (by simp [hrt, hrs]), and_mask_opcode hop rfl⟩
  · exact ⟨decide_eq_true ⟨hrs, BitVec.not_le.1 hle⟩, and_mask_opcode hop rfl⟩

theorem fitsRow_of_decodePop26 (hop : opcodeF w = 0x16#6) (h : decodePop26 w = some i) : FitsRow w i := by
  unfold decodePop26 at h
  split_ifs at h with hrt hrs heq <;> cases h
  · exact ⟨decide_eq_true hrt, and_mask_opcode hop rfl⟩
  · exact ⟨decide_eq_true hrt, and_mask_opcode hop rfl⟩
  · exact ⟨decide_eq_true ⟨heq, hrs, hrt⟩, and_mask_opcode hop rfl⟩

theorem fitsRow_of_decodePop27 (hop : opcodeF w = 0x17#6) (h : decodePop27 w = some i) : FitsRow w i := by
  unfold decodePop27 at h
  split_ifs at h with hrt hrs heq <;> cases h
  · exact ⟨decide_eq_true hrt, and_mask_opcode hop rfl⟩
  · exact ⟨decide_eq_true hrt, and_mask_opcode hop rfl⟩
  · exact ⟨decide_eq_true ⟨heq, hrs, hrt⟩, and_mask_opcode hop rfl⟩

theorem fitsRow_of_decodePop66 (hop : opcodeF w = 0x36#6) (h : decodePop66 w = some i) : FitsRow w i := by
  unfold decodePop66 at h
  split_ifs at h with hrt hrs <;> cases h
  · exact ⟨decide_eq_true hrt, and_mask_opcode hop rfl⟩
  · exact ⟨decide_eq_true hrs, and_mask_opcode hop rfl⟩

theorem fitsRow_of_decodePop76 (hop : opcodeF w = 0x3E#6) (h : decodePop76 w = some i) : FitsRow w i := by
  unfold decodePop76 at h
  split_ifs at h with hrt hrs <;> cases h
  · exact ⟨decide_eq_true hrt, and_mask_opcode hop rfl⟩
  · exact ⟨decide_eq_true hrs, and_mask_opcode hop rfl⟩

theorem fitsRow_of_decodeAui (hop : opcodeF w = 0x0F#6) (h : decodeAui w = some i) : FitsRow w i := by
  unfold decodeAui at h
  split_ifs at h with hrs <;> cases h
  · exact ⟨rfl, and_mask_opcode hop rfl⟩
  · exact ⟨decide_eq_true hrs, and_mask_opcode hop rfl⟩

theorem fitsRow_of_decodeSpecial2 (hop : opcodeF w = 0x1C#6) (h : decodeSpecial2 w = some i) : FitsRow w i := by
  unfold decodeSpecial2 at h
  split at h <;> cases h <;> exact ⟨rfl, and_mask_opcode_funct hop ‹_› rfl⟩

theorem fitsRow_of_decodeBshfl (hop : opcodeF w = 0x1F#6) (hfn : functF w = 0x20#6) (h : decodeBshfl w = some i) :
    FitsRow w i := by
  unfold decodeBshfl at h
  split at h <;> cases h <;> exact ⟨rfl, and_mask_opcode_sa_funct hop ‹_› hfn rfl⟩

theorem fitsRow_of_decodeSpecial3Mem (hop : opcodeF w = 0x1F#6) (h : decodeSpecial3Mem w = some i) : FitsRow w i := by
  unfold decodeSpecial3Mem at h
  split at h <;> cases h <;> exact ⟨rfl, and_mask_opcode_funct7 hop ‹_› rfl⟩

theorem fitsRow_of_decodeSpecial3 (hop : opcodeF w = 0x1F#6) (h : decodeSpecial3 w = some i) : FitsRow w i := by
  unfold decodeSpecial3 at h
  split at h
  case h_1 hfn => cases h; exact ⟨rfl, and_mask_opcode_funct hop hfn rfl⟩
  case h_2 hfn => cases h; exact ⟨rfl, and_mask_opcode_funct hop hfn rfl⟩
  case h_3 hfn =>
    split at h
    case isTrue halign => cases h; exact ⟨rfl, and_mask_opcode_align_funct hop halign hfn rfl⟩
    case isFalse => exact fitsRow_of_decodeBshfl hop hfn h
  case h_4 hfn => cases h; exact ⟨rfl, and_mask_opcode_funct hop hfn rfl⟩
  case h_5 hfn => split_ifs at h with hpos hpos <;> cases h <;> exact ⟨rfl, and_mask_opcode_pos_funct hop hpos hfn rfl⟩
  case h_6 => exact fitsRow_of_decodeSpecial3Mem hop h

theorem fitsRow_of_decodePcrel (hop : opcodeF w = 0x3B#6) (h : decodePcrel w = some i) : FitsRow w i := by
  unfold decodePcrel at h
  split_ifs at h with hsel hsel hrt hrt <;> cases h
  · exact ⟨rfl, and_mask_opcode_pcrel hop hsel rfl⟩
  · exact ⟨rfl, and_mask_opcode_pcrel hop hsel rfl⟩
  · exact ⟨rfl, and_mask_opcode_rt hop hrt rfl⟩
  · exact ⟨rfl, and_mask_opcode_rt hop hrt rfl⟩

theorem fitsRow_of_decodeCo (hop : opcodeF w = 0x10#6) (hco : coF w = 1) (h : decodeCo w = some i) : FitsRow w i := by
  unfold decodeCo at h
  split at h
  case h_1 hfn =>
    split at h
    case isTrue hbit => cases h; exact ⟨rfl, and_mask_opcode_co_bit6_funct hop hco hbit hfn rfl⟩
    case isFalse hbit => cases h; exact ⟨rfl, and_mask_opcode_co_bit6_funct hop hco (bit_eq_one hbit) hfn rfl⟩
  all_goals cases h
  all_goals exact ⟨rfl, and_mask_opcode_co_funct hop hco ‹_› rfl⟩

theorem fitsRow_of_decodeMfmc0 (hop : opcodeF w = 0x10#6) (hrs : rsF w = 0x0B#5) (h : decodeMfmc0 w = some i) :
    FitsRow w i := by
  unfold decodeMfmc0 at h
  split at h <;> cases h <;> exact ⟨rfl, and_mask_opcode_rs_imm hop hrs ‹_› rfl⟩

theorem fitsRow_of_decodeCop0 (hop : opcodeF w = 0x10#6) (h : decodeCop0 w = some i) : FitsRow w i := by
  unfold decodeCop0 at h
  split at h
  case isTrue hco => exact fitsRow_of_decodeCo hop hco h
  case isFalse =>
    split at h
    case h_1 hrs => cases h; exact ⟨rfl, and_mask_opcode_rs hop hrs rfl⟩
    case h_2 hrs => exact fitsRow_of_decodeMfmc0 hop hrs h
    case h_3 hrs => cases h; exact ⟨rfl, and_mask_opcode_rs hop hrs rfl⟩
    case h_4 => cases h

theorem fitsRow_of_decodeFmtS (hop : opcodeF w = 0x11#6) (hrs : rsF w = 0x10#5) (h : decodeFmtS w = some i) :
    FitsRow w i := by
  unfold decodeFmtS at h
  split at h <;> cases h <;> exact ⟨rfl, and_mask_opcode_rs_funct hop hrs ‹_› rfl⟩

theorem fitsRow_of_decodeFmtD (hop : opcodeF w = 0x11#6) (hrs : rsF w = 0x11#5) (h : decodeFmtD w = some i) :
    FitsRow w i := by
  unfold decodeFmtD at h
  split at h <;> cases h <;> exact ⟨rfl, and_mask_opcode_rs_funct hop hrs ‹_› rfl⟩

theorem fitsRow_of_decodeFmtW (hop : opcodeF w = 0x11#6) (hrs : rsF w = 0x14#5) (h : decodeFmtW w = some i) :
    FitsRow w i := by
  unfold decodeFmtW at h
  split at h <;> cases h <;> exact ⟨rfl, and_mask_opcode_rs_funct hop hrs ‹_› rfl⟩

theorem fitsRow_of_decodeFmtL (hop : opcodeF w = 0x11#6) (hrs : rsF w = 0x15#5) (h : decodeFmtL w = some i) :
    FitsRow w i := by
  unfold decodeFmtL at h
  split at h <;> cases h <;> exact ⟨rfl, and_mask_opcode_rs_funct hop hrs ‹_› rfl⟩

theorem fitsRow_of_decodeCop1 (hop : opcodeF w = 0x11#6) (h : decodeCop1 w = some i) : FitsRow w i := by
  unfold decodeCop1 at h
  split at h
  case h_9 hrs => exact fitsRow_of_decodeFmtS hop hrs h
  case h_10 hrs => exact fitsRow_of_decodeFmtD hop hrs h
  case h_11 hrs => exact fitsRow_of_decodeFmtW hop hrs h
  case h_12 hrs => exact fitsRow_of_decodeFmtL hop hrs h
  all_goals cases h
  all_goals exact ⟨rfl, and_mask_opcode_rs hop ‹_› rfl⟩

theorem fitsRow_of_decodeCop2 (hop : opcodeF w = 0x12#6) (h : decodeCop2 w = some i) : FitsRow w i := by
  unfold decodeCop2 at h
  split at h <;> cases h <;> exact ⟨rfl, and_mask_opcode_rs hop ‹_› rfl⟩

theorem fitsRow_of_decode (h : decode w = some i) : FitsRow w i := by
  unfold decode at h
  split at h
  case h_1 hop => exact fitsRow_of_decodeSpecial hop h
  case h_2 hop => exact fitsRow_of_decodeRegimm hop h
  case h_7 hop => exact fitsRow_of_decodePop06 hop h
  case h_8 hop => exact fitsRow_of_decodePop07 hop h
  case h_9 hop => exact fitsRow_of_decodePop10 hop h
  case h_16 hop => exact fitsRow_of_decodeAui hop h
  case h_17 hop => exact fitsRow_of_decodeCop0 hop h
  case h_18 hop => exact fitsRow_of_decodeCop1 hop h
  case h_19 hop => exact fitsRow_of_decodeCop2 hop h
  case h_20 hop => exact fitsRow_of_decodePop26 hop h
  case h_21 hop => exact fitsRow_of_decodePop27 hop h
  case h_22 hop => exact fitsRow_of_decodePop30 hop h
  case h_23 hop => exact fitsRow_of_decodeSpecial2 hop h
  case h_24 hop => exact fitsRow_of_decodeSpecial3 hop h
  case h_36 hop => exact fitsRow_of_decodePop66 hop h
  case h_39 hop => exact fitsRow_of_decodePcrel hop h
  case h_41 hop => exact fitsRow_of_decodePop76 hop h
  -- The primary opcode alone selects the row.
  all_goals cases h
  all_goals exact ⟨rfl, and_mask_opcode ‹_› rfl⟩

end Fits

/-- Settles O2, down the tree of decoders. -/
theorem decodedInstructionFitsItsRow : Obligations.DecodedInstructionFitsItsRow := fun _ _ h => fitsRow_of_decode h

/-! ### Words without an instruction, and words written out (R71, R75, R86, R87) -/

section Words
variable {w : Word}

/-- The primary opcodes that no row of the table has (R87). -/
def unassignedOpcodes : List (BitVec 6) :=
  [0x13#6, 0x14#6, 0x15#6, 0x19#6, 0x1A#6, 0x1B#6, 0x1D#6, 0x1E#6, 0x22#6, 0x26#6, 0x27#6, 0x2A#6, 0x2C#6, 0x2D#6, 0x2E#6,
    0x2F#6, 0x30#6, 0x33#6, 0x34#6, 0x37#6, 0x38#6, 0x3C#6, 0x3F#6]

theorem decode_eq_none_of_unassigned (h : opcodeF w ∈ unassignedOpcodes) : decode w = none := by
  unfold decode
  split
  case h_42 => rfl
  all_goals exact absurd (‹opcodeF w = _› ▸ h) (by decide)

/-- The classes of rt = 0 in the groups POP10, POP26 and POP27 (R86). -/
theorem decode_eq_none_of_rt_zero (h : opcodeF w ∈ [0x08#6, 0x16#6, 0x17#6]) (hrt : rtF w = 0) : decode w = none := by
  simp only [List.mem_cons, List.not_mem_nil, or_false] at h
  obtain hop | hop | hop := h
  · rw [decode_pop10 hop, decodePop10, if_pos hrt]
  · rw [decode_pop26 hop, decodePop26, if_pos hrt]
  · rw [decode_pop27 hop, decodePop27, if_pos hrt]

/-- The class of rs = rt = 0 in the groups POP66 and POP76 (R86). -/
theorem decode_eq_none_of_rs_rt_zero (h : opcodeF w ∈ [0x36#6, 0x3E#6]) (hrs : rsF w = 0) (hrt : rtF w = 0) :
    decode w = none := by
  simp only [List.mem_cons, List.not_mem_nil, or_false] at h
  obtain hop | hop := h
  · rw [decode_pop66 hop, decodePop66, if_neg (not_not_intro hrt), if_pos hrs]
  · rw [decode_pop76 hop, decodePop76, if_neg (not_not_intro hrt), if_pos hrs]

/-- Bits 25:16 of a word are its fields rs and rt (R71). -/
theorem extractLsb'_16_10 (w : Word) : w.extractLsb' 16 10 = rsF w ++ rtF w := by
  unfold rsF rtF
  grind

end Words

/-- Settles O4: a primary opcode that is no branch of the decoder, or a group's branch without a rule. -/
theorem unassignedWordsHaveNoInstruction : Obligations.UnassignedWordsHaveNoInstruction := by
  refine fun w => ⟨decode_eq_none_of_unassigned, decode_eq_none_of_rt_zero, fun hop hfields => ?_⟩
  rw [extractLsb'_16_10] at hfields
  have hrs : rsF w = 0 := by rw [← extractLsb'_append_high (rsF w) (rtF w), hfields]; rfl
  have hrt : rtF w = 0 := by rw [← extractLsb'_append_low (rsF w) (rtF w), hfields]; rfl
  exact decode_eq_none_of_rs_rt_zero hop hrs hrt

section UnexaminedFields
variable (rs rt rd sa : Reg)

theorem decode_packR_sll : decode (packR 0x00#6 rs rt rd sa 0x00#6) = some (.sll rd rt sa) := by
  rw [decode_special (opcodeF_packR ..), decodeSpecial, functF_packR, rdF_packR, rtF_packR, saF_packR]
  rfl
theorem decode_packR_jr : decode (packR 0x00#6 rs rt rd sa 0x08#6) = some (.jr rs) := by
  rw [decode_special (opcodeF_packR ..), decodeSpecial, functF_packR, rsF_packR]
  rfl
theorem decode_packR_add : decode (packR 0x00#6 rs rt rd sa 0x20#6) = some (.add rd rs rt) := by
  rw [decode_special (opcodeF_packR ..), decodeSpecial, functF_packR, rdF_packR, rsF_packR, rtF_packR]
  rfl
theorem decode_packMem9_llwp (b : BitVec 4) : decode (packMem9 rs rt (rd ++ b) 0x76#7) = some (.llwp rt rd rs) := by
  rw [decode_special3Mem (opcodeF_packMem9 ..) (by rw [functF_packMem9]; decide), decodeSpecial3Mem, funct7F_packMem9,
    rtF_packMem9, rdF_packMem9, rsF_packMem9, extractLsb'_append_high]
  rfl
theorem decode_packMem11_mfc2 (b : BitVec 11) : decode (packMem11 0x00#5 rt rd b) = some (.mfc2 rt rd) := by
  have hrd : rdF (packMem11 0x00#5 rt rd b) = rd := base11_packMem11 0x00#5 rt rd b
  rw [decode_cop2 (opcodeF_packMem11 ..), decodeCop2, rsF_packMem11, rtF_packMem11, hrd]
  rfl

end UnexaminedFields

/-- Settles O5: six words evaluated, and five layouts with their unexamined fields free. -/
theorem writtenWordsDecode : Obligations.WrittenWordsDecode :=
  ⟨rfl, rfl, rfl, rfl, rfl, rfl, fun rs rt rd sa b4 b11 => ⟨decode_packR_sll rs rt rd sa, decode_packR_jr rs rt rd sa,
    decode_packR_add rs rt rd sa, decode_packMem9_llwp rs rt rd b4, decode_packMem11_mfc2 rt rd b11⟩⟩

end Sys2Proof

namespace Sys2Proof.Machine

/-! ### Checked arithmetic (R101, R103) -/

section CheckedArithmetic
variable {s : State} {i : Instr}

/-- An instruction whose meaning is to raise a condition. -/
theorem completes_raise {c : Condition} (he : exec i s = .next (s.raise c)) :
    Completes i s [.raised] fun t => t.raised = some c := ⟨_, he, State.raise_raised s c, onlyChanges_raise s c⟩

theorem fitsSigned32_iff (v : Int) : fitsSigned32 v = true ↔ -2 ^ 31 ≤ v ∧ v ≤ 2 ^ 31 - 1 := by
  simp [fitsSigned32]

/-- Outside the range of a signed register an integer does not fit it. -/
theorem fitsSigned32_eq_false {v : Int} (h : v < -2 ^ 31 ∨ 2 ^ 31 - 1 < v) : fitsSigned32 v = false := by
  rw [← Bool.not_eq_true, fitsSigned32_iff]
  omega

/-- Reducing modulo 2^32 keeps an integer that fits a signed register. -/
theorem toInt_ofInt_of_fits {v : Int} (h : fitsSigned32 v = true) : (BitVec.ofInt 32 v).toInt = v := by
  obtain ⟨hlow, hhigh⟩ := (fitsSigned32_iff v).1 h
  exact BitVec.toInt_ofInt_eq_self (by decide) hlow (Int.lt_of_le_sub_one hhigh)

variable {rd rs rt : Reg}

/-- SUB of operands whose exact difference fits (R103). -/
theorem exec_sub_of_fits (h : fitsSigned32 ((s.getX rs).toInt - (s.getX rt).toInt) = true) :
    exec (.sub rd rs rt) s = .next (s.setX rd (s.getX rs - s.getX rt)) := by
  change execSub rd rs rt s = _
  simp [execSub, differenceOverflows, h]

/-- SUB of operands whose exact difference does not fit (R103, R570). -/
theorem exec_sub_of_not_fits (h : fitsSigned32 ((s.getX rs).toInt - (s.getX rt).toInt) = false) :
    exec (.sub rd rs rt) s = .next (s.raise .integerOverflow) := by
  change execSub rd rs rt s = _
  simp [execSub, differenceOverflows, h]

/-- ADD of operands whose exact sum fits, whether or not it traps (R101). -/
theorem exec_add_of_fits (h : fitsSigned32 ((s.getX rs).toInt + (s.getX rt).toInt) = true) :
    exec (.add rd rs rt) s = .next (s.setX rd (s.getX rs + s.getX rt)) := by
  change execAdd rd rs rt s = _
  simp [execAdd, sumOverflows, h]

/-- ADD that traps, of operands whose exact sum does not fit (R101, R570). -/
theorem exec_add_of_not_fits (htraps : s.params.addOverflowTraps = true)
    (h : fitsSigned32 ((s.getX rs).toInt + (s.getX rt).toInt) = false) :
    exec (.add rd rs rt) s = .next (s.raise .integerOverflow) := by
  change execAdd rd rs rt s = _
  simp [execAdd, sumOverflows, htraps, h]

end CheckedArithmetic

/-- Settles O20: the check asks whether the exact result fits, and a result that fits is not changed by wrapping. -/
theorem checkedArithmeticRaisesOrWrites : Obligations.CheckedArithmeticRaisesOrWrites := by
  intro s rd rs rt d a
  have hsum : s.getX rs + s.getX rt = BitVec.ofInt 32 a := by
    rw [BitVec.ofInt_add, BitVec.ofInt_toInt, BitVec.ofInt_toInt]
  refine ⟨fun hlow hhigh => ?_, fun h => completes_raise (exec_sub_of_not_fits (fitsSigned32_eq_false h)),
    fun _ hlow hhigh => ?_, fun htraps h => completes_raise (exec_add_of_not_fits htraps (fitsSigned32_eq_false h))⟩
  · have hfits : fitsSigned32 d = true := (fitsSigned32_iff d).2 ⟨hlow, hhigh⟩
    refine completes_setX (exec_sub_of_fits hfits) ?_
    rw [State.getX_setX_same, sub_eq_ofInt, toInt_ofInt_of_fits hfits]
  · have hfits : fitsSigned32 a = true := (fitsSigned32_iff a).2 ⟨hlow, hhigh⟩
    refine completes_setX (exec_add_of_fits hfits) ?_
    rw [State.getX_setX_same, hsum, toInt_ofInt_of_fits hfits]

/-! ### Leading bits (R121, R122) -/

section LeadingBits
variable (b : Bool) (v : Word)

theorem leadingRun_le (n : Nat) : leadingRun b v n ≤ n := by
  induction n with
  | zero => exact Nat.le_refl 0
  | succ n ih =>
    rw [leadingRun]
    split <;> omega

/-- The bits that a run counts equal `b`. -/
theorem getLsbD_of_leadingRun {n k : Nat} (hlow : n - leadingRun b v n ≤ k) (hhigh : k < n) : v.getLsbD k = b := by
  induction n with
  | zero => omega
  | succ n ih =>
    rw [leadingRun] at hlow
    split at hlow
    case isTrue htop =>
      obtain rfl | hk := Nat.eq_or_lt_of_le (Nat.le_of_lt_succ hhigh)
      · exact htop
      · exact ih (by omega) hk
    case isFalse => omega

/-- The bit that ends a run does not equal `b`. -/
theorem getLsbD_below_leadingRun {n : Nat} (h : leadingRun b v n < n) : v.getLsbD (n - 1 - leadingRun b v n) = !b := by
  induction n with
  | zero => omega
  | succ n ih =>
    rw [leadingRun] at h ⊢
    split at h
    case isTrue htop =>
      rw [if_pos htop, ← ih (by omega)]
      congr 1
      omega
    case isFalse htop =>
      rw [if_neg htop]
      exact Bool.eq_not.2 htop

end LeadingBits

/-- What CLZ and CLO write (R121, R122): the length of the run of bits `b` that starts at bit 31. -/
theorem completes_leadingRun {i : Instr} {s : State} {rd : Reg} {v : Word} (b : Bool)
    (he : exec i s = .next (s.setX rd (BitVec.ofNat 32 (leadingRun b v 32)))) :
    Completes i s [.x rd] fun t => (t.getX rd).toNat ≤ 32 ∧
      (∀ k, 32 - (t.getX rd).toNat ≤ k → k < 32 → v.getLsbD k = b) ∧
      ((t.getX rd).toNat < 32 → v.getLsbD (31 - (t.getX rd).toNat) = !b) := by
  have hle : leadingRun b v 32 ≤ 32 := leadingRun_le b v 32
  have hcount : (BitVec.ofNat 32 (leadingRun b v 32)).toNat = leadingRun b v 32 := by
    rw [BitVec.toNat_ofNat]
    exact Nat.mod_eq_of_lt (by omega)
  refine completes_setX he ?_
  rw [State.getX_setX_same, hcount]
  exact ⟨hle, fun _ => getLsbD_of_leadingRun b v, getLsbD_below_leadingRun b v⟩

/-- Settles O24, by the induction on the bits that remain in the lemmas about `leadingRun`. -/
theorem leadingBitsAreCounted : Obligations.LeadingBitsAreCounted := fun _ _ _ =>
  ⟨completes_leadingRun false rfl, completes_leadingRun true rfl⟩

/-! ### Bytes (R123 to R127, R130) -/

section Bytes

/-- A byte of a word put together from four bytes, counted from the low end. -/
theorem extractLsb'_append_bytes (b3 b2 b1 b0 : Byte) :
    (b3 ++ b2 ++ b1 ++ b0).extractLsb' 0 8 = b0 ∧ (b3 ++ b2 ++ b1 ++ b0).extractLsb' 8 8 = b1 ∧
    (b3 ++ b2 ++ b1 ++ b0).extractLsb' 16 8 = b2 ∧ (b3 ++ b2 ++ b1 ++ b0).extractLsb' 24 8 = b3 := by
  refine ⟨?_, ?_, ?_, ?_⟩ <;> grind

/-- WSBH exchanges the byte numbers 0 and 1, and 2 and 3 (R125). -/
theorem extractLsb'_swapHalfBytes (v : Word) {j : Nat} (hj : j < 4) :
    (swapHalfBytes v).extractLsb' (8 * j) 8 = v.extractLsb' (8 * (j ^^^ 1)) 8 := by
  obtain ⟨h0, h1, h2, h3⟩ :=
    extractLsb'_append_bytes (v.extractLsb' 16 8) (v.extractLsb' 24 8) (v.extractLsb' 0 8) (v.extractLsb' 8 8)
  interval_cases j
  exacts [h0, h1, h2, h3]

/-- The bits of a reversed byte (R126). -/
theorem getLsbD_reverseByte (b : Byte) {k : Nat} (hk : k < 8) : (reverseByte b).getLsbD k = b.getLsbD (7 - k) := by
  simp only [reverseByte, BitVec.getLsbD_append, BitVec.getLsbD_extractLsb']
  interval_cases k <;> rfl

/-- BITSWAP reverses each byte in its place (R126). -/
theorem extractLsb'_reverseByteBits (v : Word) {j : Nat} (hj : j < 4) :
    (reverseByteBits v).extractLsb' (8 * j) 8 = reverseByte (v.extractLsb' (8 * j) 8) := by
  obtain ⟨h0, h1, h2, h3⟩ := extractLsb'_append_bytes (reverseByte (v.extractLsb' 24 8)) (reverseByte (v.extractLsb' 16 8))
    (reverseByte (v.extractLsb' 8 8)) (reverseByte (v.extractLsb' 0 8))
  interval_cases j
  exacts [h0, h1, h2, h3]

/-- A bit of a byte of a word. -/
theorem getLsbD_extractLsb'_byte (v : Word) (j : Nat) {k : Nat} (hk : k < 8) :
    (v.extractLsb' (8 * j) 8).getLsbD k = v.getLsbD (8 * j + k) := by
  simp [hk]

theorem getLsbD_reverseByteBits (v : Word) {j k : Nat} (hj : j < 4) (hk : k < 8) :
    (reverseByteBits v).getLsbD (8 * j + k) = v.getLsbD (8 * j + (7 - k)) := by
  rw [← getLsbD_extractLsb'_byte _ j hk, extractLsb'_reverseByteBits v hj, getLsbD_reverseByte _ hk,
    getLsbD_extractLsb'_byte v j (by omega)]

/-- Sign extension of the low bits of a word keeps their signed value (R123, R124). -/
theorem toInt_signExtend_extractLsb' (v : Word) {n : Nat} (hn : n ≤ 32) :
    ((v.extractLsb' 0 n).signExtend 32).toInt = (v.setWidth n).toInt := by
  rw [BitVec.toInt_signExtend_of_le hn, BitVec.setWidth_eq_extractLsb' hn]

/-- ALIGN takes 32 bits of the two registers in a row (R127). -/
theorem joinBytes_eq (bp : BitVec 2) (high low : Word) :
    joinBytes bp high low = (low ++ high).extractLsb' (32 - 8 * bp.toNat) 32 := by
  have hbp := bp.isLt
  unfold joinBytes
  split
  case isTrue hzero =>
    subst hzero
    exact (extractLsb'_append_high low high).symm
  case isFalse hne =>
    have hpos : 0 < bp.toNat := Nat.pos_of_ne_zero fun h => hne (BitVec.eq_of_toNat_eq h)
    refine BitVec.eq_of_getLsbD_eq fun k hk => ?_
    simp only [BitVec.getLsbD_or, BitVec.getLsbD_shiftLeft, BitVec.getLsbD_ushiftRight, BitVec.getLsbD_extractLsb',
      BitVec.getLsbD_append]
    -- The low 8 * bp bits come from `high`, the others from `low`.
    by_cases hlow : k < 8 * bp.toNat
    · simp [hlow, hk, show 32 - 8 * bp.toNat + k < 32 by omega]
    · have hindex : 32 - 8 * bp.toNat + k - 32 = k - 8 * bp.toNat := by omega
      simp [hlow, hk, hindex, show ¬ 32 - 8 * bp.toNat + k < 32 by omega, show 32 ≤ 32 - 8 * bp.toNat + k by omega]

/-- LSA scales before the sum wraps (R130). -/
theorem toNat_shiftLeft_add (a b : Word) (n : Nat) : (a <<< n + b).toNat = (a.toNat * 2 ^ n + b.toNat) % 2 ^ 32 := by
  rw [BitVec.toNat_add, BitVec.toNat_shiftLeft, Nat.shiftLeft_eq, Nat.mod_add_mod]

end Bytes

/-- Settles O25: one equation for each byte operation, over all words. -/
theorem bytesAreExtendedSwappedAndAligned : Obligations.BytesAreExtendedSwappedAndAligned := by
  intro s rd rs rt bp sa2
  refine ⟨completes_setX rfl ?_, completes_setX rfl ?_, completes_setX rfl ?_, completes_setX rfl ?_, completes_setX rfl ?_,
    completes_setX rfl ?_⟩
  all_goals rw [State.getX_setX_same]
  · exact toInt_signExtend_extractLsb' (s.getX rt) (by decide)
  · exact toInt_signExtend_extractLsb' (s.getX rt) (by decide)
  · exact fun _ => extractLsb'_swapHalfBytes (s.getX rt)
  · exact fun _ _ => getLsbD_reverseByteBits (s.getX rt)
  · exact joinBytes_eq bp (s.getX rs) (s.getX rt)
  · exact toNat_shiftLeft_add (s.getX rs) (s.getX rt) (sa2.toNat + 1)

/-! ### Bit fields (R128, R129, U9) -/

section BitFields

/-- The bits of the mask of a field. -/
theorem getLsbD_lowOnes (size : Nat) {k : Nat} (hk : k < 32) : (lowOnes size).getLsbD k = decide (k < size) := by
  rw [lowOnes, BitVec.getLsbD_ofNat, Nat.testBit_two_pow_sub_one, decide_eq_true hk, Bool.true_and]

/-- The bits of an extracted field (R128). -/
theorem getLsbD_extractField (lsb size : Nat) (v : Word) {k : Nat} (hk : k < 32) :
    (extractField lsb size v).getLsbD k = (decide (k < size) && v.getLsbD (lsb + k)) := by
  rw [extractField, BitVec.getLsbD_and, BitVec.getLsbD_ushiftRight, getLsbD_lowOnes size hk, Bool.and_comm]

/-- The bits of a word with a field replaced (R129). -/
theorem getLsbD_insertField (lsb size : Nat) (old v : Word) {k : Nat} (hk : k < 32) :
    (insertField lsb size old v).getLsbD k =
      if lsb ≤ k ∧ k < lsb + size then v.getLsbD (k - lsb) else old.getLsbD k := by
  have hmask := getLsbD_lowOnes size (k := k - lsb) (by omega)
  simp only [insertField, BitVec.getLsbD_or, BitVec.getLsbD_and, BitVec.getLsbD_not, BitVec.getLsbD_shiftLeft, hmask, hk]
  by_cases hlsb : k < lsb
  · have hout : ¬ (lsb ≤ k ∧ k < lsb + size) := by omega
    simp [hlsb, hout]
  · by_cases hsize : k - lsb < size
    · have hin : lsb ≤ k ∧ k < lsb + size := by omega
      simp [hlsb, hsize, hin]
    · have hout : ¬ (lsb ≤ k ∧ k < lsb + size) := by omega
      simp [hlsb, hsize, hout]

variable {s : State} {rt rs msb lsb : Reg}

theorem exec_ext_of_le (h : lsb.toNat + msb.toNat ≤ 31) :
    exec (.ext rt rs msb lsb) s = .next (s.setX rt (extractField lsb.toNat (msb.toNat + 1) (s.getX rs))) := if_pos h

theorem exec_ext_of_lt (h : 31 < lsb.toNat + msb.toNat) : exec (.ext rt rs msb lsb) s = .refused .bitField :=
  if_neg (Nat.not_le.2 h)

theorem exec_ins_of_le (h : lsb.toNat ≤ msb.toNat) :
    exec (.ins rt rs msb lsb) s =
      .next (s.setX rt (insertField lsb.toNat (msb.toNat - lsb.toNat + 1) (s.getX rt) (s.getX rs))) := if_pos h

theorem exec_ins_of_lt (h : msb.toNat < lsb.toNat) : exec (.ins rt rs msb lsb) s = .refused .bitField :=
  if_neg (Nat.not_le.2 h)

end BitFields

/-- Settles O26: the fields decide whether the step is refused, and the masks say which bits come from where. -/
theorem bitFieldsAreMovedOrRefused : Obligations.BitFieldsAreMovedOrRefused := by
  intro s rt rs msb lsb
  refine ⟨fun h => completes_setX (exec_ext_of_le h) fun k hk => ?_, exec_ext_of_lt,
    fun h => completes_setX (exec_ins_of_le h) fun k hk => ?_, exec_ins_of_lt⟩
  · rw [State.getX_setX_same, getLsbD_extractField _ _ _ hk]
    simp only [Nat.lt_succ_iff]
  · have hend : lsb.toNat + (msb.toNat - lsb.toNat + 1) = msb.toNat + 1 := by omega
    rw [State.getX_setX_same, getLsbD_insertField _ _ _ _ hk, hend]
    simp only [Nat.lt_succ_iff]

/-! ### Logic, comparisons, upper immediates (R106 to R120, R131 to R133) -/

section Immediates

/-- A zero-extended immediate has its own bits and zeros above them (R73). -/
theorem getLsbD_zext16 (imm : Half) {k : Nat} (hk : k < 32) : (zext16 imm).getLsbD k = imm.getLsbD k := by
  simp [zext16, hk]

theorem getLsbD_nor (a b : Word) {k : Nat} (hk : k < 32) :
    (~~~(a ||| b)).getLsbD k = !(a.getLsbD k || b.getLsbD k) := by
  simp [hk]

/-- A sign-extended immediate keeps its signed value (R73). -/
theorem toInt_sext16 (imm : Half) : (sext16 imm).toInt = imm.toInt := BitVec.toInt_signExtend_of_le (by decide)

theorem toNat_upper16 (imm : Half) : (upper16 imm).toNat = imm.toNat * 2 ^ 16 := by
  rw [upper16, toNat_append_eq, BitVec.toNat_zero, Nat.add_zero]

/-- The address of the running instruction plus an upper immediate (R132). -/
theorem State.addr_add_upper16_eq_ofInt (s : State) (imm : Half) :
    s.addr + upper16 imm = BitVec.ofInt 32 (s.pc.toInt - 4 + imm.toNat * 2 ^ 16) := by
  have haddr : s.addr = BitVec.ofInt 32 (s.pc.toInt - 4) := sub_eq_ofInt s.pc 4#32
  have hupper : upper16 imm = BitVec.ofInt 32 ((imm.toNat * 2 ^ 16 : Nat) : Int) := by
    rw [BitVec.ofInt_natCast, ← toNat_upper16, BitVec.ofNat_toNat, BitVec.setWidth_eq]
  rw [haddr, hupper, ← BitVec.ofInt_add]
  push_cast
  rfl

/-- The mask of ALUIPC rounds down to a multiple of 2^16 (R133). -/
theorem toNat_and_upper_mask (v : Word) : (v &&& 0xFFFF0000#32).toNat = v.toNat / 2 ^ 16 * 2 ^ 16 := by
  have hv : v.extractLsb' 16 16 ++ v.extractLsb' 0 16 = v :=
    (BitVec.extractLsb'_append_extractLsb'_eq_extractLsb' (by decide)).trans BitVec.extractLsb'_eq_self
  have hparts : v &&& 0xFFFF0000#32 = v.extractLsb' 16 16 ++ 0#16 := calc
    v &&& 0xFFFF0000#32 = (v.extractLsb' 16 16 ++ v.extractLsb' 0 16) &&& (BitVec.allOnes 16 ++ 0#16) := by rw [hv]; rfl
    _ = v.extractLsb' 16 16 ++ (v.extractLsb' 0 16 &&& 0#16) := app_and BitVec.and_allOnes
    _ = v.extractLsb' 16 16 ++ 0#16 := by rw [BitVec.and_zero]
  have hbound : v.toNat / 2 ^ 16 < 2 ^ 16 := Nat.div_lt_of_lt_mul v.isLt
  rw [hparts, toNat_append_eq, BitVec.toNat_zero, Nat.add_zero, BitVec.extractLsb'_toNat, Nat.shiftRight_eq_div_pow,
    Nat.mod_eq_of_lt hbound]

end Immediates

/-- Settles O21: the operations on words are those on bits, and the zero-extended immediate has no bit above its own. -/
theorem logicWorksBitByBit : Obligations.LogicWorksBitByBit := by
  intro s rd rs rt imm a b
  refine ⟨completes_setX rfl fun k hk => ?_, completes_setX rfl fun k hk => ?_, completes_setX rfl fun k hk => ?_,
    completes_setX rfl fun k hk => ?_, completes_setX rfl fun k hk => ?_, completes_setX rfl fun k hk => ?_,
    completes_setX rfl fun k hk => ?_⟩
  all_goals rw [State.getX_setX_same]
  · exact BitVec.getLsbD_and
  · exact BitVec.getLsbD_or
  · exact BitVec.getLsbD_xor
  · exact getLsbD_nor a b hk
  · rw [BitVec.getLsbD_and, getLsbD_zext16 imm hk]
  · rw [BitVec.getLsbD_or, getLsbD_zext16 imm hk]
  · rw [BitVec.getLsbD_xor, getLsbD_zext16 imm hk]

/-- The word of a decided condition (R113 to R116). -/
theorem truthWord_decide (p : Prop) [Decidable p] : truthWord (decide p) = if p then 1 else 0 := by
  simp [truthWord]

/-- Settles O22: the comparisons are those of the integers, after the immediate was extended. -/
theorem comparisonsAndSelections : Obligations.ComparisonsAndSelections := by
  intro s rd rs rt imm a b
  refine ⟨completes_setX rfl ?_, completes_setX rfl ?_, completes_setX rfl ?_, completes_setX rfl ?_, completes_setX rfl ?_,
    completes_setX rfl ?_⟩
  all_goals rw [State.getX_setX_same]
  · exact truthWord_decide _
  · exact truthWord_decide _
  · rw [ltSigned, toInt_sext16]
    exact truthWord_decide _
  · exact truthWord_decide _
  · rfl
  · rfl

/-- Settles O23: an upper immediate is a multiple of 2^16, and addr is pc - 4 modulo 2^32. -/
theorem upperImmediatesAndPcRelative : Obligations.UpperImmediatesAndPcRelative := by
  intro s rs rt imm i19
  refine ⟨completes_setX rfl ?_, completes_setX rfl ?_, completes_setX rfl ?_, completes_setX rfl ?_, completes_setX rfl ?_⟩
  all_goals rw [State.getX_setX_same]
  · exact toNat_upper16 imm
  · rw [BitVec.toNat_add, toNat_upper16]
  · exact s.pcRel19_eq_ofInt i19
  · exact s.addr_add_upper16_eq_ofInt imm
  · rw [toNat_and_upper_mask, s.addr_add_upper16_eq_ofInt imm]

end Sys2Proof.Machine

namespace Sys2Proof.Machine

/-! ### Shifts and rotates (R150 to R158)

Each result as a function of the word and the amount, for every amount the instruction can have; the forms with sa and the `*v`
forms share them. -/

/-- The mask 0x1f keeps the amount modulo 32 (R150). -/
theorem State.shiftAmount_eq_mod (s : State) (rs : Reg) : s.shiftAmount rs = (s.getX rs).toNat % 32 := by
  rw [State.shiftAmount, BitVec.toNat_and]
  exact Nat.and_two_pow_sub_one_eq_mod _ 5

/-- A left shift multiplies modulo 2^32 (R151, R154). -/
theorem toNat_shiftLeft_eq_mul_mod (v : Word) (n : Nat) : (v <<< n).toNat = v.toNat * 2 ^ n % 2 ^ 32 := by
  rw [BitVec.toNat_shiftLeft, Nat.shiftLeft_eq]

/-- A right shift that lets zeros enter divides the unsigned value (R152, R155). -/
theorem toNat_ushiftRight_eq_div (v : Word) (n : Nat) : (v >>> n).toNat = v.toNat / 2 ^ n := by
  rw [BitVec.toNat_ushiftRight, Nat.shiftRight_eq_div_pow]

/-- A right shift that lets copies of bit 31 enter divides the signed value, rounding down (R153, R156). -/
theorem toInt_sshiftRight_eq_div (v : Word) (n : Nat) : (v.sshiftRight n).toInt = v.toInt / 2 ^ n := by
  rw [BitVec.toInt_sshiftRight, Int.shiftRight_eq_div_pow]
  norm_cast

/-- Bit k of a rotated word is the bit n places further up, counted round the word (R157, R158). -/
theorem getLsbD_rotateWord (v : Word) {n k : Nat} (hn : n < 32) (hk : k < 32) :
    (rotateWord v n).getLsbD k = v.getLsbD ((k + n) % 32) := by
  unfold rotateWord
  split
  case isTrue hzero => rw [hzero, Nat.add_zero, Nat.mod_eq_of_lt hk]
  case isFalse hpos =>
    rw [BitVec.getLsbD_or, BitVec.getLsbD_ushiftRight, BitVec.getLsbD_shiftLeft]
    by_cases hinside : k + n < 32
    -- The bit comes from the right shift; the left shift has zeros there.
    · have hlow : k < 32 - n := by omega
      simp [hlow, Nat.mod_eq_of_lt hinside, Nat.add_comm n k]
    -- The bit comes from the left shift; the right shift has zeros there.
    · have hhigh : ¬ k < 32 - n := by omega
      have hout : 32 ≤ n + k := by omega
      have hindex : (k + n) % 32 = k - (32 - n) := by omega
      simp [hk, hhigh, hindex, BitVec.getLsbD_of_ge v (n + k) hout]

/-- Settles O27: every meaning is one write of a shifted or rotated word, and both kinds of amount are below 32. -/
theorem shiftsAndRotates : Obligations.ShiftsAndRotates := by
  intro s rd rt rs sa v n
  have hn : s.shiftAmount rs = n := s.shiftAmount_eq_mod rs
  have hlt : n < 32 := Nat.mod_lt _ (by decide)
  refine ⟨completes_setX rfl ?_, completes_setX rfl ?_, completes_setX rfl ?_, completes_setX rfl ?_, completes_setX rfl ?_,
    completes_setX rfl ?_, completes_setX rfl ?_, completes_setX rfl ?_⟩
  all_goals rw [State.getX_setX_same]
  · exact toNat_shiftLeft_eq_mul_mod v sa.toNat
  · exact toNat_ushiftRight_eq_div v sa.toNat
  · exact toInt_sshiftRight_eq_div v sa.toNat
  · exact fun _ => getLsbD_rotateWord v sa.isLt
  · rw [hn, toNat_shiftLeft_eq_mul_mod]
  · rw [hn, toNat_ushiftRight_eq_div]
  · rw [hn, toInt_sshiftRight_eq_div]
  · rw [hn]
    exact fun _ => getLsbD_rotateWord v hlt

end Sys2Proof.Machine

namespace Sys2Proof.Machine

/-! ### Products (R165 to R168, R175 to R182) -/

section Products
variable {s : State} {i : Instr}

/-- A 64-bit value is its two halves in a row. -/
theorem highWord_append_lowWord (v : DWord) : highWord v ++ lowWord v = v :=
  (BitVec.extractLsb'_append_extractLsb'_eq_extractLsb' (by decide)).trans BitVec.extractLsb'_eq_self

/-- HI||LO read back as what was written there (R165). -/
theorem State.hi_append_lo_setAcc (s : State) (v : DWord) : (s.setAcc v).hi ++ (s.setAcc v).lo = v :=
  highWord_append_lowWord v

/-- An instruction whose meaning is one write of HI||LO. -/
theorem completes_setAcc {v : DWord} {q : State → Prop} (he : exec i s = .next (s.setAcc v)) (hq : q (s.setAcc v)) :
    Completes i s [.hi, .lo] q := ⟨_, he, hq, onlyChanges_setAcc s v⟩

variable (a b : Word)

/-- 64 bits hold every product of signed words, -2^31 times itself included (R167). -/
theorem toInt_productSigned : (productSigned a b).toInt = a.toInt * b.toInt := by
  have hlow : -2 ^ (32 * 2 - 2) ≤ a.toInt * b.toInt := BitVec.le_toInt_mul_toInt
  have hhigh : a.toInt * b.toInt ≤ 2 ^ (32 * 2 - 2) := BitVec.toInt_mul_toInt_le
  exact BitVec.toInt_ofInt_eq_self (by decide) (by omega) (by omega)

/-- 64 bits hold every product of unsigned words (R168). -/
theorem toNat_productUnsigned : (productUnsigned a b).toNat = a.toNat * b.toNat := by
  have hlt : a.toNat * b.toNat < 2 ^ 32 * 2 ^ 32 := Nat.mul_lt_mul'' a.isLt b.isLt
  rw [productUnsigned, BitVec.toNat_ofNat]
  exact Nat.mod_eq_of_lt hlt

/-- Reducing modulo 2^w keeps differences. -/
theorem ofInt_sub (w : Nat) (m n : Int) : BitVec.ofInt w (m - n) = BitVec.ofInt w m - BitVec.ofInt w n := by
  rw [Int.sub_eq_add_neg, BitVec.ofInt_add, BitVec.ofInt_neg, BitVec.sub_eq_add_neg]

variable (acc : DWord)

/-- MADD adds modulo 2^64 (R175). -/
theorem add_productSigned : acc + productSigned a b = BitVec.ofInt 64 (acc.toInt + a.toInt * b.toInt) := by
  rw [BitVec.ofInt_add, BitVec.ofInt_toInt, productSigned]

/-- MSUB subtracts modulo 2^64 (R177). -/
theorem sub_productSigned : acc - productSigned a b = BitVec.ofInt 64 (acc.toInt - a.toInt * b.toInt) := by
  rw [ofInt_sub, BitVec.ofInt_toInt, productSigned]

/-- MADDU adds modulo 2^64 (R176). -/
theorem toNat_add_productUnsigned :
    (acc + productUnsigned a b).toNat = (acc.toNat + a.toNat * b.toNat) % 2 ^ 64 := by
  rw [BitVec.toNat_add, toNat_productUnsigned]

/-- MSUBU subtracts modulo 2^64 (R178). -/
theorem sub_productUnsigned :
    acc - productUnsigned a b = BitVec.ofInt 64 ((acc.toNat : Int) - ((a.toNat * b.toNat : Nat) : Int)) := by
  rw [ofInt_sub, BitVec.ofInt_natCast, BitVec.ofInt_natCast, BitVec.ofNat_toNat, BitVec.setWidth_eq, productUnsigned]

/-- The upper half is the signed value divided by 2^32, rounding down (R180). -/
theorem toInt_highWord : (highWord acc).toInt = acc.toInt / 2 ^ 32 := by
  have hparts : acc.toInt = 2 ^ 32 * (highWord acc).toInt + (lowWord acc).toNat := by
    conv_lhs => rw [← highWord_append_lowWord acc]
    exact BitVec.toInt_append
  have hlow := (lowWord acc).isLt
  omega

/-- The upper half is the unsigned value divided by 2^32 (R182). -/
theorem toNat_highWord : (highWord acc).toNat = acc.toNat / 2 ^ 32 := by
  have hparts : acc.toNat = (highWord acc).toNat * 2 ^ 32 + (lowWord acc).toNat := by
    conv_lhs => rw [← highWord_append_lowWord acc]
    exact toNat_append_eq _ _
  have hlow := (lowWord acc).isLt
  omega

/-- The lower half is the unsigned value modulo 2^32 (R181). -/
theorem toNat_lowWord : (lowWord acc).toNat = acc.toNat % 2 ^ 32 := by
  rw [lowWord, BitVec.extractLsb'_toNat, Nat.shiftRight_zero]

/-- The lower half of an integer modulo 2^64 is the integer modulo 2^32 (R179). -/
theorem lowWord_ofInt (n : Int) : lowWord (BitVec.ofInt 64 n) = BitVec.ofInt 32 n := by
  apply BitVec.eq_of_toNat_eq
  rw [toNat_lowWord, BitVec.toNat_ofInt, BitVec.toNat_ofInt]
  omega

end Products

/-- Settles O28: 64 bits hold every product, so that HI||LO or its halves lose nothing but what wraps at 2^64. -/
theorem productsAreExact : Obligations.ProductsAreExact := by
  intro s rd rs rt p u
  refine ⟨completes_setAcc rfl ?mult, completes_setAcc rfl ?multu, completes_setAcc rfl ?madd, completes_setAcc rfl ?maddu,
    completes_setAcc rfl ?msub, completes_setAcc rfl ?msubu, completes_setX rfl ?mul, completes_setX rfl ?muh,
    completes_setX rfl ?mulu, completes_setX rfl ?muhu⟩
  case mult => rw [State.hi_append_lo_setAcc, toInt_productSigned]
  case multu => rw [State.hi_append_lo_setAcc, toNat_productUnsigned]
  case madd => exact (State.hi_append_lo_setAcc ..).trans (add_productSigned ..)
  case maddu =>
    rw [State.hi_append_lo_setAcc, toNat_add_productUnsigned]
    rfl
  case msub => exact (State.hi_append_lo_setAcc ..).trans (sub_productSigned ..)
  case msubu => exact (State.hi_append_lo_setAcc ..).trans (sub_productUnsigned ..)
  case mul => exact (State.getX_setX_same ..).trans (lowWord_ofInt p)
  case muh => rw [State.getX_setX_same, toInt_highWord, toInt_productSigned]
  case mulu => rw [State.getX_setX_same, toNat_lowWord, toNat_productUnsigned]
  case muhu => rw [State.getX_setX_same, toNat_highWord, toNat_productUnsigned]

/-! ### Divisions (R169, R170, R183 to R186, U3) -/

section Divisions

/-- A word that is not 0 has a signed value that is not 0. -/
theorem toInt_ne_zero {v : Word} (h : v ≠ 0) : v.toInt ≠ 0 := fun hv => h (BitVec.eq_of_toInt_eq hv)

/-- The truncating remainder is smaller than the divisor (R169). -/
theorem natAbs_tmod_lt (n : Int) {d : Int} (h : d ≠ 0) : (n.tmod d).natAbs < d.natAbs := by
  rw [Int.natAbs_tmod]
  exact Nat.mod_lt _ (Int.natAbs_pos.2 h)

/-- The truncating remainder, unless it is 0, has the sign of the dividend (R169). -/
theorem tmod_neg_iff {n d : Int} (h : n.tmod d ≠ 0) : n.tmod d < 0 ↔ n < 0 := by
  have hdvd : ¬ d ∣ n := fun hd => h (Int.tmod_eq_zero_of_dvd hd)
  rw [← Int.sign_eq_neg_one_iff_neg, Int.sign_tmod, if_neg hdvd, Int.sign_eq_neg_one_iff_neg]

theorem toNat_quotUnsigned (n d : Word) : (quotUnsigned n d).toNat = n.toNat / d.toNat := by
  rw [quotUnsigned, BitVec.toNat_ofNat]
  exact Nat.mod_eq_of_lt (Nat.lt_of_le_of_lt (Nat.div_le_self _ _) n.isLt)

theorem toNat_remUnsigned (n d : Word) : (remUnsigned n d).toNat = n.toNat % d.toNat := by
  rw [remUnsigned, BitVec.toNat_ofNat]
  exact Nat.mod_eq_of_lt (Nat.lt_of_le_of_lt (Nat.mod_le _ _) n.isLt)

variable {s : State} {i : Instr} {rd rs rt : Reg}

/-- A division into a register, by a divisor that is not 0, writes the operation's value. -/
theorem completes_divideReg {op : Word → Word → Word} {q : Word → Prop} (he : exec i s = divideReg op rd rs rt s)
    (h : s.getX rt ≠ 0) (hq : q (op (s.getX rs) (s.getX rt))) : Completes i s [.x rd] fun t => q (t.getX rd) := by
  refine completes_setX (he.trans (divideReg_next.2 (if_neg h))) ?_
  rwa [State.getX_setX_same]

/-- A division into a register by 0 writes some value there (U3). -/
theorem completes_divideReg_zero {op : Word → Word → Word} (he : exec i s = divideReg op rd rs rt s) (h : s.getX rt = 0) :
    Completes i s [.x rd] fun _ => True :=
  ⟨_, he.trans (divideReg_next.2 (if_pos h)), trivial, (onlyChanges_setX s rd _).trans (onlyChanges_draw _)⟩

/-- LO and HI written one after the other. -/
theorem onlyChanges_setLo_setHi (s : State) (v w : Word) : OnlyChanges [.hi, .lo] s ((s.setLo v).setHi w) :=
  ((onlyChanges_setLo s v).trans (onlyChanges_setHi _ w)).mono (by simp)

/-- A division into LO and HI, by a divisor that is not 0, writes the quotient and the remainder. -/
theorem completes_divideAcc {quot rem : Word → Word → Word} {q : Word → Word → Prop} (he : exec i s = divideAcc quot rem rs rt s)
    (h : s.getX rt ≠ 0) (hq : q (quot (s.getX rs) (s.getX rt)) (rem (s.getX rs) (s.getX rt))) :
    Completes i s [.hi, .lo] fun t => q t.lo t.hi :=
  ⟨_, he.trans (divideAcc_next.2 (if_neg h)), hq, onlyChanges_setLo_setHi s _ _⟩

/-- A division into LO and HI by 0 writes some values there (U3). -/
theorem completes_divideAcc_zero {quot rem : Word → Word → Word} (he : exec i s = divideAcc quot rem rs rt s)
    (h : s.getX rt = 0) : Completes i s [.hi, .lo] fun _ => True :=
  ⟨_, he.trans (divideAcc_next.2 (if_pos h)), trivial,
    ((onlyChanges_setLo_setHi s _ _).trans (onlyChanges_draw _)).trans (onlyChanges_draw _)⟩

end Divisions

/-- Settles O29: the quotient and remainder of the signed division are those of `Int.tdiv` and `Int.tmod`. -/
theorem divisionGivesQuotientAndRemainder : Obligations.DivisionGivesQuotientAndRemainder := by
  intro s rd rs rt n d un ud
  refine ⟨fun h => ?nonzero, fun h => ?zero⟩
  case nonzero =>
    have hd : d ≠ 0 := toInt_ne_zero h
    have hud : 0 < ud := Nat.pos_of_ne_zero fun hz => h (BitVec.eq_of_toNat_eq hz)
    refine ⟨n.tdiv d, n.tmod d, (Int.tdiv_mul_add_tmod n d).symm, natAbs_tmod_lt n hd, tmod_neg_iff,
      completes_divideAcc (q := fun lo hi => lo = BitVec.ofInt 32 (n.tdiv d) ∧ hi = BitVec.ofInt 32 (n.tmod d)) rfl h ⟨rfl, rfl⟩,
      completes_divideReg (q := (· = BitVec.ofInt 32 (n.tdiv d))) rfl h rfl,
      completes_divideReg (q := (· = BitVec.ofInt 32 (n.tmod d))) rfl h rfl,
      completes_divideAcc (q := fun lo hi => lo.toNat * ud + hi.toNat = un ∧ hi.toNat < ud) rfl h ?_,
      completes_divideReg (q := (·.toNat = un / ud)) rfl h (toNat_quotUnsigned ..),
      completes_divideReg (q := (·.toNat = un % ud)) rfl h (toNat_remUnsigned ..)⟩
    rw [toNat_quotUnsigned, toNat_remUnsigned]
    exact ⟨Nat.div_add_mod' un ud, Nat.mod_lt un hud⟩
  case zero =>
    exact ⟨completes_divideAcc_zero rfl h, completes_divideAcc_zero rfl h, completes_divideReg_zero rfl h,
      completes_divideReg_zero rfl h, completes_divideReg_zero rfl h, completes_divideReg_zero rfl h⟩

/-! ### Moves (R171 to R174, R530 to R552) -/

section Moves
variable {s : State} {i : Instr} {r : Reg} {v : Word}

theorem completes_moveToX (he : exec i s = .next (s.setX r v)) : Completes i s [.x r] fun t => t.getX r = v :=
  completes_setX he (State.getX_setX_same s r v)

theorem completes_moveToF (he : exec i s = .next (s.setF r v)) : Completes i s [.f r] fun t => t.getF r = v :=
  ⟨_, he, State.getF_setF_same s r v, onlyChanges_setF s r v⟩

theorem completes_moveToFcr (he : exec i s = .next (s.setFcr r v)) : Completes i s [.fcr r] fun t => t.getFcr r = v :=
  ⟨_, he, (State.getFcr_setFcr s r r v).trans (if_pos rfl), onlyChanges_setFcr s r v⟩

theorem completes_moveToC2d (he : exec i s = .next (s.setC2d r v)) : Completes i s [.c2d r] fun t => t.getC2d r = v :=
  ⟨_, he, (State.getC2d_setC2d s r r v).trans (if_pos rfl), onlyChanges_setC2d s r v⟩

theorem completes_moveToC2c (he : exec i s = .next (s.setC2c r v)) : Completes i s [.c2c r] fun t => t.getC2c r = v :=
  ⟨_, he, (State.getC2c_setC2c s r r v).trans (if_pos rfl), onlyChanges_setC2c s r v⟩

theorem completes_moveToSx (he : exec i s = .next (s.setSx r v)) : Completes i s [.sx r] fun t => t.getSx r = v :=
  ⟨_, he, (State.getSx_setSx s r r v).trans (if_pos rfl), onlyChanges_setSx s r v⟩

theorem completes_moveToHi (he : exec i s = .next (s.setHi v)) : Completes i s [.hi] fun t => t.hi = v :=
  ⟨_, he, State.setHi_hi s v, onlyChanges_setHi s v⟩

theorem completes_moveToLo (he : exec i s = .next (s.setLo v)) : Completes i s [.lo] fun t => t.lo = v :=
  ⟨_, he, State.setLo_lo s v, onlyChanges_setLo s v⟩

/-- An instruction that needs an even pair goes on when it names one (U4). -/
theorem exec_of_onPairs {t : State} (hr : r.toNat % 2 = 0) (he : exec i s = onPairs (evenReg r) (.next t)) :
    exec i s = .next t := he.trans (onPairs_next.2 ⟨(evenReg_iff r).2 hr, rfl⟩)

end Moves

/-- Settles O30: each meaning is one write of what another register holds; h is the register after the even one. -/
theorem movesCopyOneRegister : Obligations.MovesCopyOneRegister := by
  intro s r q
  refine ⟨completes_moveToX rfl, completes_moveToX rfl, completes_moveToHi rfl, completes_moveToLo rfl,
    completes_moveToX rfl, completes_moveToF rfl, completes_moveToX rfl, completes_moveToFcr rfl,
    completes_moveToX rfl, completes_moveToC2d rfl, completes_moveToX rfl, completes_moveToC2c rfl,
    completes_moveToX rfl, completes_moveToSx rfl, fun h hq hh => ?_⟩
  obtain rfl := eq_succ_of_toNat hh
  exact ⟨completes_moveToX (exec_of_onPairs hq rfl), completes_moveToF (exec_of_onPairs hq rfl),
    completes_moveToX (exec_of_onPairs hq rfl), completes_moveToC2d (exec_of_onPairs hq rfl)⟩

end Sys2Proof.Machine

namespace Sys2Proof.Machine

/-! ### Transfers without a delay slot (R190, R191, R194)

A transfer is `branchIf` or `linkBranchIf` of a Boolean condition and a target; what the statements say of pc is proved once for
each of the two, for every proposition that the Boolean stands for. -/

section Conditions
variable (a b : Word)

theorem isNegative_iff : isNegative a = true ↔ a.toInt < 0 := decide_eq_true_iff
theorem not_isNegative_iff : (!isNegative a) = true ↔ 0 ≤ a.toInt := by simp [isNegative]
theorem isNotPositive_iff : isNotPositive a = true ↔ a.toInt ≤ 0 := decide_eq_true_iff
theorem not_isNotPositive_iff : (!isNotPositive a) = true ↔ 0 < a.toInt := by simp [isNotPositive]
theorem ltSigned_iff : ltSigned a b = true ↔ a.toInt < b.toInt := decide_eq_true_iff
theorem not_ltSigned_iff : (!ltSigned a b) = true ↔ b.toInt ≤ a.toInt := by simp [ltSigned]
theorem ltUnsigned_iff : ltUnsigned a b = true ↔ a.toNat < b.toNat := decide_eq_true_iff
theorem not_ltUnsigned_iff : (!ltUnsigned a b) = true ↔ b.toNat ≤ a.toNat := by simp [ltUnsigned]

/-- BNVC asks whether the exact sum fits a signed register (R227). -/
theorem not_sumOverflows_iff :
    (!sumOverflows a b) = true ↔ -2 ^ 31 ≤ a.toInt + b.toInt ∧ a.toInt + b.toInt ≤ 2 ^ 31 - 1 := by
  rw [sumOverflows, Bool.not_not, fitsSigned32_iff]

/-- BOVC asks whether the exact sum lies outside it (R226). -/
theorem sumOverflows_iff :
    sumOverflows a b = true ↔ a.toInt + b.toInt < -2 ^ 31 ∨ 2 ^ 31 - 1 < a.toInt + b.toInt := by
  rw [sumOverflows, Bool.not_eq_true', ← Bool.not_eq_true, fitsSigned32_iff]
  omega

/-- Bit 0 is the parity of the unsigned value. -/
theorem getLsbD_zero_iff : a.getLsbD 0 = true ↔ a.toNat % 2 = 1 := by
  rw [BitVec.getLsbD, Nat.testBit_zero, decide_eq_true_iff]

theorem not_getLsbD_zero_iff : (!a.getLsbD 0) = true ↔ a.toNat % 2 = 0 := by
  rw [Bool.not_eq_true', ← Bool.not_eq_true, getLsbD_zero_iff]
  omega

end Conditions

section Transfers
variable {s : State} {i : Instr} {c : Bool} {P : Prop}

/-- An instruction whose meaning is one write of pc. -/
theorem completes_setPc {v : Word} {q : State → Prop} (he : exec i s = .next (s.setPc v)) (hq : q (s.setPc v)) :
    Completes i s [.pc] q := ⟨_, he, hq, onlyChanges_setPc s v⟩

/-- A conditional branch goes to its target exactly if its condition holds (R190). -/
theorem completes_branch16 {imm : Half} (he : exec i s = branchIf c (s.branchTarget16 imm) s) (hc : c = true ↔ P) :
    Completes i s [.pc] fun t => (P → t.pc = BitVec.ofInt 32 (s.pc.toInt + 4 * imm.toInt)) ∧ (¬ P → t.pc = s.pc) := by
  have htarget : s.branchTarget16 imm = BitVec.ofInt 32 (s.pc.toInt + 4 * imm.toInt) :=
    add_signExtend_shiftLeft_two_eq_ofInt s.pc imm
  cases c with
  | true => exact ⟨_, he, ⟨fun _ => htarget, fun hP => absurd (hc.1 rfl) hP⟩, onlyChanges_setPc s _⟩
  | false => exact ⟨_, he, ⟨fun hP => (nomatch hc.2 hP), fun _ => rfl⟩, onlyChanges_refl _ s⟩

/-- A linking transfer writes the link, and goes to its target exactly if its condition holds (R194). -/
theorem completes_linkBranch {link v target goal : Word} (he : exec i s = linkBranchIf link c target s) (hlink : link = v)
    (htarget : target = goal) (hc : c = true ↔ P) :
    Completes i s [.x 31, .pc] fun t => t.getX 31 = v ∧ (P → t.pc = goal) ∧ (¬ P → t.pc = s.pc) := by
  subst hlink htarget
  have hread : (s.setX linkReg link).getX 31 = link := State.getX_setX_same s linkReg link
  have hframe : OnlyChanges [.x 31] s (s.setX linkReg link) := onlyChanges_setX s linkReg link
  cases c with
  | true =>
    exact ⟨_, he, ⟨hread, fun _ => rfl, fun hP => absurd (hc.1 rfl) hP⟩, hframe.trans (onlyChanges_setPc _ target)⟩
  | false =>
    exact ⟨_, he, ⟨hread, fun hP => (nomatch hc.2 hP), fun _ => rfl⟩, hframe.mono (by simp)⟩

/-- The address of the running instruction is four less than pc, modulo 2^32 (R36). -/
theorem State.addr_eq_ofInt (s : State) : s.addr = BitVec.ofInt 32 (s.pc.toInt - 4) := sub_eq_ofInt s.pc 4#32

/-- The links, counted from the address of the running instruction (R194). -/
theorem State.link8_eq_ofInt (s : State) : s.link8 = BitVec.ofInt 32 (s.pc.toInt - 4 + 8) := by
  rw [State.link8, s.addr_eq_ofInt, BitVec.ofInt_add]
  rfl

theorem State.link4_eq_ofInt (s : State) : s.link4 = BitVec.ofInt 32 (s.pc.toInt - 4 + 4) := by
  rw [State.link4, s.addr_eq_ofInt, BitVec.ofInt_add]
  rfl

end Transfers

/-- Settles O31: each meaning is `branchIf` of the Boolean that stands for its condition. -/
theorem conditionalBranchesWritePcOnly : Obligations.ConditionalBranchesWritePcOnly := by
  intro s rs rt imm a b goesTo
  refine ⟨fun i hi => ?equal, fun i hi => ?notEqual, fun i hi => ?notPositive, fun i hi => ?positive, fun i hi => ?negative,
    fun i hi => ?notNegative, completes_branch16 rfl beq_iff_eq, completes_branch16 rfl bne_iff_ne,
    completes_branch16 rfl (ltSigned_iff a b), completes_branch16 rfl (not_ltSigned_iff a b),
    completes_branch16 rfl (ltUnsigned_iff a b), completes_branch16 rfl (not_ltUnsigned_iff a b),
    completes_branch16 rfl (sumOverflows_iff a b), completes_branch16 rfl (not_sumOverflows_iff a b),
    completes_branch16 rfl (not_getLsbD_zero_iff _), completes_branch16 rfl (getLsbD_zero_iff _),
    completes_branch16 rfl (not_getLsbD_zero_iff _), completes_branch16 rfl (getLsbD_zero_iff _)⟩
  case equal =>
    fin_cases hi
    all_goals exact completes_branch16 rfl beq_iff_eq
  case notEqual =>
    fin_cases hi
    all_goals exact completes_branch16 rfl bne_iff_ne
  case notPositive =>
    fin_cases hi
    all_goals exact completes_branch16 rfl (isNotPositive_iff a)
  case positive =>
    fin_cases hi
    all_goals exact completes_branch16 rfl (not_isNotPositive_iff a)
  case negative =>
    fin_cases hi
    all_goals exact completes_branch16 rfl (isNegative_iff a)
  case notNegative =>
    fin_cases hi
    all_goals exact completes_branch16 rfl (not_isNegative_iff a)

/-- Settles O32: each meaning is one write of pc, and only the targets differ. -/
theorem jumpsWritePcOnly : Obligations.JumpsWritePcOnly := fun s r imm index =>
  ⟨completes_setPc rfl (s.toNat_jumpTarget index), completes_setPc rfl rfl,
    completes_setPc rfl (add_signExtend_shiftLeft_two_eq_ofInt s.pc index),
    completes_setPc rfl (add_sext16_eq_ofInt (s.getX r) imm)⟩

/-- Settles O33: NAL is a write of x[31] alone, the others are `linkBranchIf`; link, target and condition are of the old state. -/
theorem linkingTransfersWithoutSlotAlwaysLink : Obligations.LinkingTransfersWithoutSlotAlwaysLink := by
  intro s r imm o26 a near goes
  have hlink4 := s.link4_eq_ofInt
  have hlink8 := s.link8_eq_ofInt
  have hnear : s.branchTarget16 imm = near := add_signExtend_shiftLeft_two_eq_ofInt s.pc imm
  have hfar : s.branchTarget26 o26 = BitVec.ofInt 32 (s.pc.toInt + 4 * o26.toInt) :=
    add_signExtend_shiftLeft_two_eq_ofInt s.pc o26
  have hindexed : s.indexedTarget r imm = BitVec.ofInt 32 (a.toInt + imm.toInt) := add_sext16_eq_ofInt a imm
  have halways : true = true ↔ True := iff_true_intro rfl
  exact ⟨completes_setX rfl ((State.getX_setX_same s linkReg _).trans hlink8),
    completes_linkBranch rfl hlink8 hnear (not_isNegative_iff a), completes_linkBranch rfl hlink4 hfar halways,
    completes_linkBranch rfl hlink4 hindexed halways, completes_linkBranch rfl hlink4 hnear (isNotPositive_iff a),
    completes_linkBranch rfl hlink4 hnear (not_isNegative_iff a), completes_linkBranch rfl hlink4 hnear (not_isNotPositive_iff a),
    completes_linkBranch rfl hlink4 hnear (isNegative_iff a), completes_linkBranch rfl hlink4 hnear beq_iff_eq,
    completes_linkBranch rfl hlink4 hnear bne_iff_ne⟩

/-! ### Transfers with a delay slot (R191 to R196) -/

section SlotTransfers
variable {s : State} {i : Instr} {rd rs : Reg}

/-- JALR's check looks at the two low bits of the target (R568). -/
theorem low_bits_eq_zero_iff (a : Word) : a.extractLsb' 0 2 = 0#2 ↔ a.toNat % 4 = 0 := by
  rw [← BitVec.toNat_inj, BitVec.extractLsb'_toNat, Nat.shiftRight_zero]
  rfl

/-- JALR with an aligned target (R201). -/
theorem exec_jalr_of_aligned (h : (s.getX rs).toNat % 4 = 0) : exec (.jalr rd rs) s = linkWithSlot rd true (s.getX rs) s :=
  if_pos ((low_bits_eq_zero_iff _).2 h)

/-- JALR with a target that is not aligned raises before link and slot (R568). -/
theorem exec_jalr_of_misaligned (h : (s.getX rs).toNat % 4 ≠ 0) : exec (.jalr rd rs) s = .next (s.raise .addressError) :=
  if_neg (mt (low_bits_eq_zero_iff _).1 h)

/-- The four delay-slot instructions, JALR with an aligned target, link and owe the slot. -/
theorem exec_eq_linkWithSlot (hi : hasDelaySlot i = true) (haligned : ∀ rd rs, i = .jalr rd rs → (s.getX rs).toNat % 4 = 0) :
    ∃ link taken target, exec i s = linkWithSlot link taken target s := by
  cases i with
  | bal | jal | bltzal => exact ⟨_, _, _, rfl⟩
  | jalr rd rs => exact ⟨_, _, _, exec_jalr_of_aligned (haligned rd rs rfl)⟩
  | _ => cases hi

/-- A transfer with a delay slot changes the link register and the slot owed (R193). -/
theorem completes_linkWithSlot {link : Reg} {c : Bool} {target : Word} {d : DelaySlot}
    (he : exec i s = linkWithSlot link c target s) (hd : (if c then .transfer target else .fallThrough) = d) :
    Completes i s [.x link, .slot] fun t => t.getX link = BitVec.ofInt 32 (s.pc.toInt - 4 + 8) ∧ t.slot = d :=
  ⟨_, he, ⟨(State.getX_setX_same s link _).trans s.link8_eq_ofInt, hd⟩,
    (onlyChanges_setX s link _).trans (onlyChanges_setSlot _ _)⟩

end SlotTransfers

/-- Settles O34: all four are `linkWithSlot`, JALR where its check lets it. -/
theorem slotTransfersLinkAndOweTheSlot : Obligations.SlotTransfersLinkAndOweTheSlot := by
  intro s rd rs imm index link
  refine ⟨completes_linkWithSlot rfl rfl, completes_linkWithSlot rfl rfl,
    fun h => completes_linkWithSlot (exec_jalr_of_aligned h) rfl, fun h => completes_raise (exec_jalr_of_misaligned h),
    completes_linkWithSlot rfl ?_⟩
  simp only [isNegative_iff]

/-! ### The step of a transfer with a delay slot (R192, R193, R195) -/

section SlotSteps
variable {run : Instr → State → Result} {s t : State} {w : Word} {i : Instr} {p : Params}

/-- No COP2 word decodes to a delay-slot instruction. -/
theorem hasDelaySlot_of_decodeCop2 (h : decodeCop2 w = some i) : hasDelaySlot i = false := by
  unfold decodeCop2 at h
  split at h
  case h_13 => cases h
  all_goals
    obtain rfl := Option.some.inj h
    rfl

/-- DECODE_FALLBACK says nothing of COP2 words (R86). -/
theorem decodeIn_cop2 (p : Params) (h : opcodeF w = 0x12#6) : decodeIn p w = decodeCop2 w := by
  have huncovered : uncovered w = false := by simp [uncovered, h]
  cases hd : decodeCop2 w <;> simp [decodeIn, decode_cop2 h, hd, huncovered]

/-- The gate is never closed for a delay-slot instruction (R35). -/
theorem gateClosed_of_hasDelaySlot (s : State) (hd : decodeIn p w = some i) (hi : hasDelaySlot i = true) :
    gateClosed s w = false := by
  refine Bool.eq_false_iff.2 fun hg => ?_
  have hop : opcodeF w = 0x12#6 := by
    rw [gateClosed, Bool.and_eq_true, beq_iff_eq] at hg
    exact hg.1
  rw [decodeIn_cop2 p hop] at hd
  exact Bool.noConfusion (hi.symm.trans (hasDelaySlot_of_decodeCop2 hd))

/-- A pass in a delay slot over an instruction without one of its own (R192). -/
theorem nested_pass_of_no_slot (hf : fetchWord s = some w) (hg : gateClosed s w = false) (hd : decodeIn s.params w = some i)
    (hi : hasDelaySlot i = false) : pass run true s = run i (s.setPc (s.pc + 4#32)) := by
  simp [pass, hf, hg, hd, hi]

/-- A pass in a delay slot over a delay-slot instruction (R195, U2). -/
theorem nested_pass_of_hasDelaySlot (hf : fetchWord s = some w) (hd : decodeIn s.params w = some i)
    (hi : hasDelaySlot i = true) : pass run true s = .refused .nestedDelaySlot := by
  simp [pass, hf, gateClosed_of_hasDelaySlot s hd hi, hd, hi]

/-- The state in which the delay slot of the step from `s` runs: the link written and pc at the slot (R193). -/
def State.slotState (s : State) (link : Reg) : State := (s.begin.setX link (s.pc + 8#32)).setPc (s.pc + 4#32)

/-- The link of an instruction at `s.pc` is the address after its slot. -/
theorem link8_begin_setPc (s : State) : (s.begin.setPc (s.pc + 4#32)).link8 = s.pc + 8#32 := by
  change s.pc + 4#32 - 4#32 + 8#32 = _
  rw [BitVec.add_sub_cancel]

/-- The link written, and the slot owed no more. -/
theorem setSlot_idle_eq_slotState (s : State) (link : Reg) (d : DelaySlot) :
    (((s.begin.setPc (s.pc + 4#32)).setX link (s.pc + 8#32)).setSlot d).setSlot .idle = s.slotState link := rfl

/-- A step whose instruction links and owes its slot runs the slot (R193). -/
theorem step_of_linkWithSlot {link : Reg} {taken : Bool} {target : Word} (hacc : s.accessible s.pc 4 = true)
    (hd : decodeIn s.params (load32 s.mem s.pc) = some i) (hi : hasDelaySlot i = true)
    (he : exec i (s.begin.setPc (s.pc + 4#32)) = linkWithSlot link taken target (s.begin.setPc (s.pc + 4#32))) :
    step s = runSlot exec (if taken then .transfer target else .fallThrough) (s.slotState link) := by
  have hp : pass exec false s.begin = linkWithSlot link taken target (s.begin.setPc (s.pc + 4#32)) :=
    (pass_of_decodeIn_some (s := s.begin) (fetchWord_of_accessible hacc) (gateClosed_of_hasDelaySlot _ hd hi) hd).trans he
  rw [linkWithSlot, link8_begin_setPc] at hp
  have howed : (if taken then .transfer target else .fallThrough : DelaySlot) ≠ .idle := by cases taken <;> simp
  have hstep : step s = _ := stepWith_of_slot hp howed
  rwa [State.setSlot_slot, setSlot_idle_eq_slotState] at hstep

/-- The fetch of the slot's instruction. -/
theorem fetchWord_slotState (link : Reg) (h : s.accessible (s.pc + 4#32) 4 = true) :
    fetchWord (s.slotState link) = some (load32 s.mem (s.pc + 4#32)) :=
  fetchWord_of_accessible (s := s.slotState link) h

/-- The pass over the slot's instruction has pc behind the slot. -/
theorem pass_slotState (link : Reg) (hacc : s.accessible (s.pc + 4#32) 4 = true)
    (hd : decodeIn s.params (load32 s.mem (s.pc + 4#32)) = some i) (hg : gateClosed s (load32 s.mem (s.pc + 4#32)) = false)
    (hi : hasDelaySlot i = false) :
    pass run true (s.slotState link) = run i ((s.begin.setX link (s.pc + 8#32)).setPc (s.pc + 8#32)) := by
  have hpc : s.pc + 4#32 + 4#32 = s.pc + 8#32 := BitVec.add_assoc ..
  have hnext : (s.slotState link).setPc (s.pc + 4#32 + 4#32) = (s.begin.setX link (s.pc + 8#32)).setPc (s.pc + 8#32) := by
    rw [hpc]
    rfl
  rw [← hnext]
  exact nested_pass_of_no_slot (s := s.slotState link) (fetchWord_slotState link hacc) hg hd hi

/-- A slot whose pass completes is left with the write of pc if the transfer is taken and nothing was raised (R193, R575). -/
theorem runSlot_of_next {taken : Bool} {target : Word} (h : pass run true s = .next t) :
    runSlot run (if taken then .transfer target else .fallThrough) s =
      .next (if t.raised = none ∧ taken = true then t.setPc target else t) := by
  cases hr : t.raised with
  | none => cases taken <;> simp [runSlot, h, hr, leaveSlot]
  | some c => simp [runSlot, h, hr]

end SlotSteps

/-- What remains for a step when the slot's instruction completes. -/
theorem step_of_slot_next {s u : State} {i i' : Instr} {link : Reg} {taken : Bool} {target : Word}
    (hacc : s.accessible s.pc 4 = true) (hd : decode (load32 s.mem s.pc) = some i) (hi : hasDelaySlot i = true)
    (he : exec i (s.begin.setPc (s.pc + 4#32)) = linkWithSlot link taken target (s.begin.setPc (s.pc + 4#32)))
    (hacc' : s.accessible (s.pc + 4#32) 4 = true) (hd' : decode (load32 s.mem (s.pc + 4#32)) = some i')
    (hg' : gateClosed s (load32 s.mem (s.pc + 4#32)) = false) (hi' : hasDelaySlot i' = false)
    (hu : exec i' ((s.begin.setX link (s.pc + 8#32)).setPc (s.pc + 8#32)) = .next u) :
    step s = .next (if u.raised = none ∧ taken = true then u.setPc target else u) := by
  rw [step_of_linkWithSlot hacc (decodeIn_of_decode hd) hi he]
  exact runSlot_of_next ((pass_slotState link hacc' (decodeIn_of_decode hd') hg' hi').trans hu)

/-- The branch target of an instruction at `s.pc` (R190). -/
theorem branchTarget16_begin_setPc (s : State) (imm : Half) :
    (s.begin.setPc (s.pc + 4#32)).branchTarget16 imm = BitVec.ofInt 32 (s.pc.toInt + 4 + 4 * imm.toInt) := by
  refine (add_signExtend_shiftLeft_two_eq_ofInt (s.pc + 4#32) imm).trans ?_
  rw [BitVec.ofInt_add, BitVec.ofInt_add, BitVec.ofInt_add, BitVec.ofInt_toInt, BitVec.ofInt_toInt]
  rfl

/-- The jump target of an instruction at `s.pc` (R190). -/
theorem jumpTarget_begin_setPc (s : State) (index : BitVec 26) :
    (s.begin.setPc (s.pc + 4#32)).jumpTarget index =
      BitVec.ofNat 32 ((s.pc + 4#32).toNat / 2 ^ 28 * 2 ^ 28 + 4 * index.toNat) := by
  have htarget := (s.begin.setPc (s.pc + 4#32)).toNat_jumpTarget index
  rw [State.setPc_pc] at htarget
  rw [← htarget, BitVec.ofNat_toNat, BitVec.setWidth_eq]

/-- Settles O7: JALR's misaligned target ends the first pass; otherwise the meaning links and owes the slot with the target read
before it, and the slot's pass decides what remains. -/
theorem delaySlotRunsBeforeTheTransfer : Obligations.DelaySlotRunsBeforeTheTransfer := by
  intro s i hacc hdec
  refine ⟨?misaligned, ?runs⟩
  case misaligned =>
    rintro rd rs rfl h
    have hd := decodeIn_of_decode (p := s.params) hdec
    have hp : pass exec false s.begin = .next ((s.begin.setPc (s.pc + 4#32)).raise .addressError) :=
      (pass_of_decodeIn_some (s := s.begin) (fetchWord_of_accessible hacc) (gateClosed_of_hasDelaySlot _ hd rfl) hd).trans
        (exec_jalr_of_misaligned h)
    have hframe := ((onlyChanges_begin s).trans (onlyChanges_setPc _ (s.pc + 4#32))).trans (onlyChanges_raise _ .addressError)
    exact ⟨_, stepWith_of_idle hp rfl, rfl, rfl, hframe.mono (by decide)⟩
  case runs =>
    rintro i' link taken target u (⟨imm, rfl, rfl, rfl, rfl⟩ | ⟨index, rfl, rfl, rfl, rfl⟩ |
      ⟨rd, rs, rfl, rfl, rfl, rfl, haligned⟩ | ⟨rs, imm, rfl, rfl, rfl, rfl⟩)
    · rw [← branchTarget16_begin_setPc]
      exact step_of_slot_next hacc hdec rfl rfl
    · rw [← jumpTarget_begin_setPc]
      exact step_of_slot_next hacc hdec rfl rfl
    · exact step_of_slot_next hacc hdec rfl (exec_jalr_of_aligned haligned)
    · rw [← branchTarget16_begin_setPc]
      exact step_of_slot_next hacc hdec rfl rfl

/-- Settles O8: the first instruction owes its slot, and the pass there is refused. -/
theorem nestedDelaySlotIsRefused : Obligations.NestedDelaySlotIsRefused := by
  intro s i i' hacc hacc' hd hi haligned hd' hi'
  obtain ⟨link, taken, target, he⟩ := exec_eq_linkWithSlot (s := s.begin.setPc (s.pc + 4#32)) hi haligned
  have hp : pass exec true (s.slotState link) = .refused .nestedDelaySlot :=
    nested_pass_of_hasDelaySlot (fetchWord_slotState link hacc') hd' hi'
  rw [step_of_linkWithSlot hacc hd hi he, runSlot, hp]

end Sys2Proof.Machine

namespace Sys2Proof.Machine

-- One after the other: each thread reserves memory of its own, and the check's limit leaves no room for more of them.
set_option Elab.async false

/-! ### Formats and the fields of a pattern (R250, R251)

The facts about floating point hold for every format with an exponent field of two bits and a fraction field of one bit or more;
binary32 and binary64 are such formats. -/

/-- The fields are wide enough for normal numbers and for an even and an odd fraction. -/
structure Format.Proper (fmt : Format) : Prop where
  expBits : 2 ≤ fmt.expBits
  fracBits : 1 ≤ fmt.fracBits

theorem Format.proper_of_mem {fmt : Format} (h : fmt ∈ [binary32, binary64]) : fmt.Proper := by
  fin_cases h
  · exact ⟨by decide, by decide⟩
  · exact ⟨by decide, by decide⟩

section Patterns
variable {fmt : Format}

theorem Format.signValue_eq (fmt : Format) : fmt.signValue = 2 ^ fmt.expBits * 2 ^ fmt.fracBits := Nat.pow_add ..

theorem Format.two_pow_width (fmt : Format) : 2 ^ fmt.width = 2 * fmt.signValue := by
  rw [Format.width, Format.signValue, Nat.add_assoc, Nat.pow_add, Nat.pow_one]

theorem Format.two_pow_width_pred (fmt : Format) : 2 ^ (fmt.width - 1) = fmt.signValue := by
  rw [Format.width, Nat.add_assoc, Nat.add_sub_cancel_left, Format.signValue]

theorem Format.signValue_pos (fmt : Format) : 0 < fmt.signValue := Nat.two_pow_pos _

/-- The infinities lie below the sign bit. -/
theorem Format.infBits_lt (fmt : Format) : fmt.infBits < fmt.signValue := by
  rw [Format.infBits, fmt.signValue_eq]
  exact Nat.mul_lt_mul_of_pos_right (Nat.sub_lt (Nat.two_pow_pos _) Nat.one_pos) (Nat.two_pow_pos _)

/-- The two readings of the sign bit agree. -/
theorem fpNeg_eq_signBit (fmt : Format) (p : Nat) : fpNeg fmt p = fmt.signBit p := by
  rw [Format.signBit, Nat.testBit_eq_decide_div_mod_eq, fpNeg, Format.signValue]
  exact beq_eq_decide _ _

theorem fpMagnitude_lt (fmt : Format) (p : Nat) : fpMagnitude fmt p < fmt.signValue := Nat.mod_lt _ fmt.signValue_pos

/-- The exponent field of a pattern is that of its magnitude. -/
theorem fpMagnitude_div (fmt : Format) (p : Nat) :
    fpMagnitude fmt p / 2 ^ fmt.fracBits = p / 2 ^ fmt.fracBits % 2 ^ fmt.expBits := by
  rw [fpMagnitude, fmt.signValue_eq, Nat.mod_mul_left_div_self]

/-- The fraction field of a pattern is that of its magnitude. -/
theorem fpMagnitude_mod (fmt : Format) (p : Nat) : fpMagnitude fmt p % 2 ^ fmt.fracBits = p % 2 ^ fmt.fracBits := by
  rw [fpMagnitude, fmt.signValue_eq, Nat.mod_mul_left_mod]

/-- A magnitude is below infinity exactly when its exponent field is not all ones. -/
theorem fpMagnitude_lt_infBits_iff (fmt : Format) (p : Nat) :
    fpMagnitude fmt p < fmt.infBits ↔ p / 2 ^ fmt.fracBits % 2 ^ fmt.expBits ≠ 2 ^ fmt.expBits - 1 := by
  have hlt : p / 2 ^ fmt.fracBits % 2 ^ fmt.expBits < 2 ^ fmt.expBits := Nat.mod_lt _ (Nat.two_pow_pos _)
  rw [Format.infBits, ← Nat.div_lt_iff_lt_mul (Nat.two_pow_pos _), fpMagnitude_div]
  omega

theorem Format.isFinite_iff {p : Nat} : fmt.isFinite p ↔ p < 2 ^ fmt.width ∧ fpMagnitude fmt p < fmt.infBits := by
  rw [Format.isFinite, fpMagnitude_lt_infBits_iff]

theorem Format.isFinite.magnitude_lt {p : Nat} (h : fmt.isFinite p) : fpMagnitude fmt p < fmt.infBits :=
  (Format.isFinite_iff.1 h).2

/-- A pattern is put together from its sign and its magnitude. -/
theorem fpSigned_signBit_magnitude {p : Nat} (h : p < 2 ^ fmt.width) :
    fpSigned fmt (fmt.signBit p) (fpMagnitude fmt p) = p := by
  rw [fmt.two_pow_width] at h
  have hdm := Nat.div_add_mod p fmt.signValue
  have hq : p / fmt.signValue < 2 := (Nat.div_lt_iff_lt_mul fmt.signValue_pos).2 h
  rw [← fpNeg_eq_signBit, fpSigned, fpNeg, fpMagnitude, Nat.mod_eq_of_lt hq]
  obtain hq | hq := Nat.le_one_iff_eq_zero_or_eq_one.1 (Nat.lt_succ_iff.1 hq)
  · simpa [hq] using hdm
  · simpa [hq] using hdm

section Signed
variable {neg : Bool} {n : Nat} (h : n < fmt.signValue)
include h

/-- The magnitude of a pattern that was put together. -/
theorem fpMagnitude_fpSigned : fpMagnitude fmt (fpSigned fmt neg n) = n := by
  cases neg <;> simp [fpMagnitude, fpSigned, Nat.mod_eq_of_lt h]

/-- The sign of a pattern that was put together. -/
theorem signBit_fpSigned : fmt.signBit (fpSigned fmt neg n) = neg := by
  rw [← fpNeg_eq_signBit]
  cases neg <;> simp [fpNeg, fpSigned, Nat.div_eq_of_lt h, Nat.add_div_left _ fmt.signValue_pos]

theorem fpSigned_lt : fpSigned fmt neg n < 2 ^ fmt.width := by
  rw [fmt.two_pow_width, fpSigned]
  split <;> omega

theorem isFinite_fpSigned_iff : fmt.isFinite (fpSigned fmt neg n) ↔ n < fmt.infBits := by
  rw [Format.isFinite_iff, fpMagnitude_fpSigned h, and_iff_right (fpSigned_lt h)]

end Signed

section Parity
variable (hfmt : fmt.Proper)
include hfmt

theorem Format.even_two_pow_fracBits : Even (2 ^ fmt.fracBits) :=
  Nat.even_pow.2 ⟨even_two, Nat.one_le_iff_ne_zero.1 hfmt.fracBits⟩

theorem Format.even_infBits : Even fmt.infBits := (Format.even_two_pow_fracBits hfmt).mul_left _

/-- The sign does not change the parity of a pattern. -/
theorem fpSigned_mod_two (neg : Bool) (n : Nat) : fpSigned fmt neg n % 2 = n % 2 := by
  have heven : Even fmt.signValue := by
    rw [fmt.signValue_eq]
    exact (Format.even_two_pow_fracBits hfmt).mul_left _
  cases neg
  · rfl
  · change (fmt.signValue + n) % 2 = n % 2
    rw [Nat.add_mod, Nat.even_iff.1 heven, Nat.zero_add, Nat.mod_mod]

end Parity

/-! The patterns of zeros and infinities as the statements write them. -/

theorem Format.zero_eq (fmt : Format) (neg : Bool) : fmt.zero neg = fpSigned fmt neg 0 := by
  cases neg <;> simp [Format.zero, fpSigned, fmt.two_pow_width_pred]

theorem Format.infinity_eq (fmt : Format) (neg : Bool) : fmt.infinity neg = fpSigned fmt neg fmt.infBits := by
  cases neg <;> simp [Format.infinity, fpSigned, Format.infBits, fmt.two_pow_width_pred]

theorem fpZero_eq (fmt : Format) (neg : Bool) : fpZero fmt neg = .bits (fmt.zero neg) := by rw [fpZero, fmt.zero_eq]

theorem fpInf_eq (fmt : Format) (neg : Bool) : fpInf fmt neg = .bits (fmt.infinity neg) := by rw [fpInf, fmt.infinity_eq]

@[simp] theorem signBit_infinity (fmt : Format) (neg : Bool) : fmt.signBit (fmt.infinity neg) = neg := by
  rw [fmt.infinity_eq, signBit_fpSigned fmt.infBits_lt]

@[simp] theorem fpMagnitude_infinity (fmt : Format) (neg : Bool) : fpMagnitude fmt (fmt.infinity neg) = fmt.infBits := by
  rw [fmt.infinity_eq, fpMagnitude_fpSigned fmt.infBits_lt]

@[simp] theorem signBit_zero (fmt : Format) (neg : Bool) : fmt.signBit (fmt.zero neg) = neg := by
  rw [fmt.zero_eq, signBit_fpSigned fmt.signValue_pos]

@[simp] theorem fpMagnitude_zero (fmt : Format) (neg : Bool) : fpMagnitude fmt (fmt.zero neg) = 0 := by
  rw [fmt.zero_eq, fpMagnitude_fpSigned fmt.signValue_pos]

theorem fpIsNaN_iff (fmt : Format) (p : Nat) : fpIsNaN fmt p = true ↔ fmt.infBits < fpMagnitude fmt p := decide_eq_true_iff

theorem fpIsNaN_eq_false_iff (fmt : Format) (p : Nat) : fpIsNaN fmt p = false ↔ fpMagnitude fmt p ≤ fmt.infBits := by
  rw [← Bool.not_eq_true, fpIsNaN_iff, Nat.not_lt]

theorem Format.isFinite.isNaN_eq_false {p : Nat} (h : fmt.isFinite p) : fpIsNaN fmt p = false :=
  (fpIsNaN_eq_false_iff fmt p).2 h.magnitude_lt.le

@[simp] theorem fpIsNaN_infinity (fmt : Format) (neg : Bool) : fpIsNaN fmt (fmt.infinity neg) = false := by
  simp [fpIsNaN_eq_false_iff]

theorem Format.infBits_pos (hfmt : fmt.Proper) : 0 < fmt.infBits := by
  have := hfmt.expBits
  have : 1 < 2 ^ fmt.expBits := Nat.one_lt_two_pow (by omega)
  exact Nat.mul_pos (by omega) (Nat.two_pow_pos _)

end Patterns

/-! ### The value of a magnitude

A magnitude pattern n is the significand `n - d * 2 ^ fracBits` at the exponent `minExp + d`; a carry out of the significand goes
into the exponent field, so the values rise with the pattern, and the pattern of infinity stands for the first power of two that is
too large. -/

/-- How many places the last place of a magnitude lies above that of the subnormal numbers. -/
def Format.lastPlace (fmt : Format) (n : Nat) : Nat := n / 2 ^ fmt.fracBits - 1

/-- The significand of a magnitude, with the leading bit of a normal number. -/
def Format.significand (fmt : Format) (n : Nat) : Nat := n - fmt.lastPlace n * 2 ^ fmt.fracBits

/-- The real number of a magnitude. -/
noncomputable def Format.magnitudeValue (fmt : Format) (n : Nat) : ℝ :=
  fmt.significand n * (2 : ℝ) ^ (fmt.minExp + fmt.lastPlace n)

/-- A real number with a sign given to it. -/
def signedReal (neg : Bool) (r : ℝ) : ℝ := if neg then -r else r

section SignedReal

@[simp] theorem signedReal_false (r : ℝ) : signedReal false r = r := rfl
@[simp] theorem signedReal_true (r : ℝ) : signedReal true r = -r := rfl
@[simp] theorem signedReal_zero (neg : Bool) : signedReal neg 0 = 0 := by cases neg <;> simp
@[simp] theorem signedReal_eq_zero_iff {neg : Bool} {r : ℝ} : signedReal neg r = 0 ↔ r = 0 := by cases neg <;> simp
@[simp] theorem abs_signedReal (neg : Bool) (r : ℝ) : |signedReal neg r| = |r| := by cases neg <;> simp
theorem signedReal_not (neg : Bool) (r : ℝ) : signedReal (!neg) r = -signedReal neg r := by cases neg <;> simp
theorem signedReal_mul_signedReal (na nb : Bool) (r s : ℝ) :
    signedReal na r * signedReal nb s = signedReal (na ^^ nb) (r * s) := by cases na <;> cases nb <;> simp
theorem signedReal_add (neg : Bool) (r s : ℝ) : signedReal neg (r + s) = signedReal neg r + signedReal neg s := by
  cases neg <;> simp [add_comm]
theorem signedReal_mul (neg : Bool) (r s : ℝ) : signedReal neg (r * s) = signedReal neg r * s := by cases neg <;> simp
theorem signedReal_div_signedReal (na nb : Bool) (r s : ℝ) :
    signedReal na r / signedReal nb s = signedReal (na ^^ nb) (r / s) := by cases na <;> cases nb <;> simp [div_neg, neg_div]
theorem abs_signedReal_sub (neg : Bool) (r s : ℝ) : |signedReal neg r - signedReal neg s| = |r - s| := by
  cases neg
  · rfl
  · rw [signedReal_true, signedReal_true, neg_sub_neg, abs_sub_comm]
/-- Numbers of different signs are as far apart as their magnitudes reach together. -/
theorem abs_signedReal_sub_of_ne {na nb : Bool} (h : na ≠ nb) {r s : ℝ} (hr : 0 ≤ r) (hs : 0 ≤ s) :
    |signedReal na r - signedReal nb s| = r + s := by
  rw [Bool.eq_not_of_ne h, signedReal_not, ← neg_add', abs_neg, ← signedReal_add, abs_signedReal, abs_of_nonneg (add_nonneg hr hs)]
@[simp] theorem cast_signedInt (neg : Bool) (m : Nat) : ((signedInt neg m : ℤ) : ℝ) = signedReal neg m := by
  cases neg <;> simp [signedInt]

end SignedReal

section Magnitudes
variable (fmt : Format)

theorem Format.lastPlace_mul_add_significand (n : Nat) :
    fmt.lastPlace n * 2 ^ fmt.fracBits + fmt.significand n = n := by
  refine Nat.add_sub_cancel' ?_
  calc fmt.lastPlace n * 2 ^ fmt.fracBits ≤ n / 2 ^ fmt.fracBits * 2 ^ fmt.fracBits :=
        Nat.mul_le_mul_right _ (Nat.sub_le _ _)
    _ ≤ n := Nat.div_mul_le_self _ _

/-- Below the normal numbers the significand is the pattern; above, it has fracBits + 1 bits. -/
theorem Format.significand_cases (n : Nat) :
    (n / 2 ^ fmt.fracBits = 0 ∧ fmt.lastPlace n = 0 ∧ fmt.significand n = n % 2 ^ fmt.fracBits) ∨
    (n / 2 ^ fmt.fracBits = fmt.lastPlace n + 1 ∧ fmt.significand n = 2 ^ fmt.fracBits + n % 2 ^ fmt.fracBits) := by
  have hdm := Nat.div_add_mod' n (2 ^ fmt.fracBits)
  have hsum := fmt.lastPlace_mul_add_significand n
  rcases Nat.eq_zero_or_pos (n / 2 ^ fmt.fracBits) with h0 | hpos
  · have hl : fmt.lastPlace n = 0 := by simp [Format.lastPlace, h0]
    rw [h0] at hdm
    rw [hl] at hsum
    exact .inl ⟨h0, hl, by omega⟩
  · have hl : n / 2 ^ fmt.fracBits = fmt.lastPlace n + 1 := by rw [Format.lastPlace]; omega
    rw [hl, Nat.succ_mul] at hdm
    exact .inr ⟨hl, by omega⟩

theorem Format.significand_lt (n : Nat) : fmt.significand n < 2 ^ (fmt.fracBits + 1) := by
  have hmod : n % 2 ^ fmt.fracBits < 2 ^ fmt.fracBits := Nat.mod_lt _ (Nat.two_pow_pos _)
  rw [Nat.pow_succ]
  rcases fmt.significand_cases n with ⟨-, -, h⟩ | ⟨-, h⟩ <;> omega

/-- A significand and its place make a pattern, as long as the place is that of the subnormal numbers or the significand is that of a
normal number; a significand of 2 ^ (fracBits + 1) carries. -/
theorem Format.magnitudeValue_encode {d s : Nat} (hs : s ≤ 2 ^ (fmt.fracBits + 1)) (hd : d = 0 ∨ 2 ^ fmt.fracBits ≤ s) :
    fmt.magnitudeValue (d * 2 ^ fmt.fracBits + s) = s * (2 : ℝ) ^ (fmt.minExp + d) := by
  have hF := Nat.two_pow_pos fmt.fracBits
  rw [Nat.pow_succ] at hs
  have hdiv : (d * 2 ^ fmt.fracBits + s) / 2 ^ fmt.fracBits = d + s / 2 ^ fmt.fracBits := by
    rw [Nat.add_comm, Nat.add_mul_div_right _ _ hF, Nat.add_comm]
  rcases Nat.lt_or_ge s (2 ^ fmt.fracBits) with hsub | hnormal
  · obtain rfl : d = 0 := by omega
    have hl : fmt.lastPlace (0 * 2 ^ fmt.fracBits + s) = 0 := by
      rw [Format.lastPlace, hdiv, Nat.div_eq_of_lt hsub]
    rw [Format.magnitudeValue, Format.significand, hl]
    simp
  rcases Nat.lt_or_ge s (2 * 2 ^ fmt.fracBits) with hlt | hge
  · have hl : fmt.lastPlace (d * 2 ^ fmt.fracBits + s) = d := by
      have : s / 2 ^ fmt.fracBits = 1 := Nat.div_eq_of_lt_le (by omega) (by omega)
      rw [Format.lastPlace, hdiv, this]
      omega
    rw [Format.magnitudeValue, Format.significand, hl]
    simp
  · obtain rfl : s = 2 * 2 ^ fmt.fracBits := by omega
    have hl : fmt.lastPlace (d * 2 ^ fmt.fracBits + 2 * 2 ^ fmt.fracBits) = d + 1 := by
      rw [Format.lastPlace, hdiv, Nat.mul_div_cancel _ hF]
      omega
    have hsig : fmt.significand (d * 2 ^ fmt.fracBits + 2 * 2 ^ fmt.fracBits) = 2 ^ fmt.fracBits := by
      rw [Format.significand, hl, Nat.succ_mul d]
      omega
    rw [Format.magnitudeValue, hsig, hl, Nat.cast_succ, ← add_assoc, zpow_add_one₀ two_ne_zero]
    push_cast
    ring

theorem Format.magnitudeValue_strictMono : StrictMono fmt.magnitudeValue := by
  refine strictMono_nat_of_lt_succ fun n => ?_
  have hn := fmt.lastPlace_mul_add_significand n
  have hlt := fmt.significand_lt n
  have hd : fmt.lastPlace n = 0 ∨ 2 ^ fmt.fracBits ≤ fmt.significand n := by
    rcases fmt.significand_cases n with ⟨-, h, -⟩ | ⟨-, h⟩
    · exact .inl h
    · exact .inr (by omega)
  have hsucc : fmt.magnitudeValue (n + 1) = (fmt.significand n + 1 : ℕ) * (2 : ℝ) ^ (fmt.minExp + fmt.lastPlace n) := by
    rw [← fmt.magnitudeValue_encode (s := fmt.significand n + 1) hlt (hd.imp_right fun h => by omega), ← Nat.add_assoc, hn]
  rw [hsucc, Format.magnitudeValue]
  gcongr
  exact Nat.lt_succ_self _

@[simp] theorem Format.magnitudeValue_zero : fmt.magnitudeValue 0 = 0 := by
  simp [Format.magnitudeValue, Format.significand]

theorem Format.magnitudeValue_nonneg (n : Nat) : 0 ≤ fmt.magnitudeValue n := by
  rw [Format.magnitudeValue]
  positivity

@[simp] theorem Format.magnitudeValue_eq_zero_iff {n : Nat} : fmt.magnitudeValue n = 0 ↔ n = 0 := by
  rw [← fmt.magnitudeValue_zero, fmt.magnitudeValue_strictMono.injective.eq_iff]

/-- The exponent of the smallest subnormal number, from the bias. -/
theorem Format.one_sub_bias : (1 : ℤ) - ((2 : ℤ) ^ (fmt.expBits - 1) - 1) = fmt.minExp + fmt.fracBits := by
  rw [Format.minExp]
  ring

/-- The value of a pattern is that of its magnitude with its sign. -/
theorem Format.value_eq (p : Nat) :
    fmt.value p = signedReal (fmt.signBit p) (fmt.magnitudeValue (fpMagnitude fmt p)) := by
  have hF : (2 : ℝ) ^ fmt.fracBits ≠ 0 := by positivity
  have hE := fpMagnitude_div fmt p
  have hexp : ∀ x : ℤ, (2 : ℝ) ^ (x + fmt.fracBits) = 2 ^ x * 2 ^ fmt.fracBits := fun x => by
    rw [zpow_add₀ two_ne_zero, zpow_natCast]
  have hsign : ∀ r : ℝ, (if fmt.signBit p then (-1 : ℝ) else 1) * r = signedReal (fmt.signBit p) r := fun r => by
    cases fmt.signBit p <;> simp
  rw [Format.value]
  simp only [hsign, ← hE, Format.magnitudeValue]
  rcases fmt.significand_cases (fpMagnitude fmt p) with ⟨h0, hl, hs⟩ | ⟨h1, hs⟩
  · rw [if_pos h0, hl, hs, fpMagnitude_mod, fmt.one_sub_bias, hexp, ← signedReal_mul]
    congr 1
    simp
    field_simp
  · have hbias : ((fmt.lastPlace (fpMagnitude fmt p) + 1 : ℕ) : ℤ) - ((2 : ℤ) ^ (fmt.expBits - 1) - 1) =
        fmt.minExp + fmt.lastPlace (fpMagnitude fmt p) + fmt.fracBits := by
      have := fmt.one_sub_bias
      push_cast
      linarith
    rw [if_neg (by omega), h1, hs, fpMagnitude_mod, hbias, hexp, ← signedReal_mul]
    congr 1
    push_cast
    field_simp

theorem Format.abs_value (p : Nat) : |fmt.value p| = fmt.magnitudeValue (fpMagnitude fmt p) := by
  rw [fmt.value_eq, abs_signedReal, abs_of_nonneg (fmt.magnitudeValue_nonneg _)]

theorem Format.value_eq_zero_iff {p : Nat} : fmt.value p = 0 ↔ fpMagnitude fmt p = 0 := by
  rw [fmt.value_eq, signedReal_eq_zero_iff, fmt.magnitudeValue_eq_zero_iff]

theorem value_fpSigned {neg : Bool} {n : Nat} (h : n < fmt.signValue) :
    fmt.value (fpSigned fmt neg n) = signedReal neg (fmt.magnitudeValue n) := by
  rw [fmt.value_eq, signBit_fpSigned h, fpMagnitude_fpSigned h]

end Magnitudes

/-! ### The bias: infinity, the largest number and 1 -/

section Bias
variable {fmt : Format}

/-- The bias: the exponent field of 1. -/
def Format.bias (fmt : Format) : Nat := 2 ^ (fmt.expBits - 1) - 1

theorem Format.bias_pos (hfmt : fmt.Proper) : 0 < fmt.bias := by
  have : 2 ≤ 2 ^ (fmt.expBits - 1) := Nat.le_self_pow (by have := hfmt.expBits; omega) 2
  rw [Format.bias]
  omega

theorem Format.minExp_eq (fmt : Format) : fmt.minExp = 1 - fmt.bias - fmt.fracBits := by
  rw [Format.minExp, Format.bias, Nat.cast_sub Nat.one_le_two_pow]
  push_cast
  ring

/-- The magnitudes with fraction field 0 are powers of two. -/
theorem Format.magnitudeValue_power (fmt : Format) (d : Nat) :
    fmt.magnitudeValue (d * 2 ^ fmt.fracBits + 2 ^ fmt.fracBits) * 2 ^ fmt.bias = 2 ^ (d + 1) := by
  rw [fmt.magnitudeValue_encode (Nat.pow_le_pow_right two_pos (Nat.le_succ _)) (.inr le_rfl), fmt.minExp_eq,
    show (1 : ℤ) - fmt.bias - fmt.fracBits + d = (d + 1 : ℕ) - (fmt.bias + fmt.fracBits : ℕ) by push_cast; ring,
    zpow_sub₀ two_ne_zero, zpow_natCast, zpow_natCast, pow_add _ fmt.bias]
  push_cast
  field_simp

theorem Format.infBits_eq (hfmt : fmt.Proper) : fmt.infBits = 2 * fmt.bias * 2 ^ fmt.fracBits + 2 ^ fmt.fracBits := by
  have hE : 2 ^ fmt.expBits = 2 * 2 ^ (fmt.expBits - 1) := by
    rw [← Nat.pow_succ', Nat.succ_eq_add_one, Nat.sub_add_cancel (hfmt.expBits.trans' one_le_two)]
  have hpos := Nat.two_pow_pos (fmt.expBits - 1)
  rw [Format.infBits, ← Nat.succ_mul, hE, Format.bias]
  congr 1
  omega

/-- What the pattern of infinity would stand for. -/
theorem Format.magnitudeValue_infBits (hfmt : fmt.Proper) : fmt.magnitudeValue fmt.infBits = 2 ^ (fmt.bias + 1) := by
  have h := fmt.magnitudeValue_power (2 * fmt.bias)
  rw [← Format.infBits_eq hfmt] at h
  refine mul_right_cancel₀ (pow_ne_zero fmt.bias two_ne_zero) (h.trans ?_)
  rw [← pow_add]
  congr 1
  omega

/-- The largest number. -/
theorem Format.magnitudeValue_largest (hfmt : fmt.Proper) :
    fmt.magnitudeValue (fmt.infBits - 1) = (2 ^ (fmt.fracBits + 1) - 1) * 2 ^ fmt.bias / 2 ^ fmt.fracBits := by
  have hpos := Format.bias_pos hfmt
  have hF := Nat.two_pow_pos fmt.fracBits
  have hlargest : fmt.infBits - 1 = (2 * fmt.bias - 1) * 2 ^ fmt.fracBits + (2 ^ (fmt.fracBits + 1) - 1) := by
    have hd : 2 * fmt.bias = 2 * fmt.bias - 1 + 1 := by omega
    rw [Format.infBits_eq hfmt, hd, Nat.add_sub_cancel, Nat.succ_mul, Nat.pow_succ]
    omega
  rw [hlargest, fmt.magnitudeValue_encode (Nat.sub_le _ _) (.inr (by rw [Nat.pow_succ]; omega)), fmt.minExp_eq,
    show (1 : ℤ) - fmt.bias - fmt.fracBits + (2 * fmt.bias - 1 : ℕ) = fmt.bias - fmt.fracBits by
      rw [Nat.cast_sub (by omega)]; push_cast; ring,
    zpow_sub₀ two_ne_zero, zpow_natCast, zpow_natCast, Nat.cast_sub Nat.one_le_two_pow, mul_div_assoc]
  push_cast
  rfl

/-- The pattern of 1 has the bias as its exponent field. -/
theorem Format.oneBits_eq (fmt : Format) : fmt.oneBits = fmt.bias * 2 ^ fmt.fracBits := rfl

theorem Format.magnitudeValue_oneBits (hfmt : fmt.Proper) : fmt.magnitudeValue fmt.oneBits = 1 := by
  have hbias : fmt.bias = fmt.bias - 1 + 1 := (Nat.sub_add_cancel (Format.bias_pos hfmt)).symm
  have h := fmt.magnitudeValue_power (fmt.bias - 1)
  rw [← Nat.succ_mul, Nat.succ_eq_add_one, ← hbias, ← fmt.oneBits_eq] at h
  exact mul_right_cancel₀ (pow_ne_zero fmt.bias two_ne_zero) (h.trans (one_mul _).symm)

theorem Format.oneBits_lt (hfmt : fmt.Proper) : fmt.oneBits < fmt.infBits := by
  rw [← fmt.magnitudeValue_strictMono.lt_iff_lt, Format.magnitudeValue_oneBits hfmt, Format.magnitudeValue_infBits hfmt]
  exact one_lt_pow₀ one_lt_two (Nat.succ_ne_zero _)

theorem Format.oneBits_ne_zero (hfmt : fmt.Proper) : fmt.oneBits ≠ 0 :=
  Nat.mul_ne_zero (Format.bias_pos hfmt).ne' (Nat.two_pow_pos _).ne'

/-- The value of the smallest magnitude that is not 0 is at most that of any other. -/
theorem Format.magnitudeValue_one_le {n : Nat} (h : n ≠ 0) : fmt.magnitudeValue 1 ≤ fmt.magnitudeValue n :=
  fmt.magnitudeValue_strictMono.monotone (Nat.one_le_iff_ne_zero.2 h)

end Bias

/-! ### What a pattern is read as -/

section Unpack
variable {fmt : Format}

theorem unpack_of_isNaN {p : Nat} (h : fpIsNaN fmt p = true) : unpack fmt p = .nan :=
  if_pos ((fpIsNaN_iff fmt p).1 h)

@[simp] theorem unpack_infinity (fmt : Format) (neg : Bool) : unpack fmt (fmt.infinity neg) = .inf neg := by
  simp [unpack, fpNeg_eq_signBit]

/-- A number is read as its sign, its significand and the exponent of its last place. -/
theorem unpack_of_isFinite {p : Nat} (h : fmt.isFinite p) :
    unpack fmt p = .finite (fmt.signBit p) (fmt.significand (fpMagnitude fmt p))
      (fmt.minExp + fmt.lastPlace (fpMagnitude fmt p)) := by
  have hlt := h.magnitude_lt
  rw [unpack, if_neg hlt.not_gt, if_neg hlt.ne, fpNeg_eq_signBit, fpExponent, fpFraction, ← fpMagnitude_mod]
  rcases fmt.significand_cases (fpMagnitude fmt p) with ⟨h0, hl, hs⟩ | ⟨h1, hs⟩
  · rw [if_pos h0, hl, hs, Nat.cast_zero, add_zero]
  · rw [if_neg (by omega), h1, hs, Nat.cast_succ, ← add_assoc, add_sub_cancel_right]

theorem Format.isFinite_zero (hfmt : fmt.Proper) (neg : Bool) : fmt.isFinite (fmt.zero neg) := by
  rw [fmt.zero_eq, isFinite_fpSigned_iff fmt.signValue_pos]
  exact Format.infBits_pos hfmt

theorem unpack_zero (hfmt : fmt.Proper) (neg : Bool) : unpack fmt (fmt.zero neg) = .finite neg 0 fmt.minExp := by
  rw [unpack_of_isFinite (Format.isFinite_zero hfmt neg), signBit_zero, fpMagnitude_zero]
  simp [Format.significand, Format.lastPlace]

/-- A pattern of the format is a NaN, an infinity or a number. -/
theorem Format.pattern_cases {p : Nat} (h : p < 2 ^ fmt.width) :
    fpIsNaN fmt p = true ∨ p = fmt.infinity (fmt.signBit p) ∨ fmt.isFinite p := by
  rw [fpIsNaN_iff, Format.isFinite_iff, and_iff_right h]
  rcases Nat.lt_trichotomy (fpMagnitude fmt p) fmt.infBits with hlt | heq | hgt
  · exact .inr (.inr hlt)
  · refine .inr (.inl ?_)
    rw [fmt.infinity_eq, ← heq, fpSigned_signBit_magnitude h]
  · exact .inl hgt

end Unpack

/-! ### Rounding to an integer (R251, R380) -/

/-- `n` is the integer nearest to `w`, the even one of two. -/
def NearestEven (w : ℝ) (n : ℤ) : Prop := |w - n| ≤ 1 / 2 ∧ (|w - n| = 1 / 2 → Even n)

section Integers

theorem NearestEven.of_lt {w : ℝ} {n : ℤ} (h : |w - n| < 1 / 2) : NearestEven w n := ⟨h.le, fun he => absurd he h.ne⟩

theorem nearestEven_self (n : ℤ) : NearestEven n n := .of_lt (by norm_num)

/-- Rounding to nearest does not depend on the sign. -/
theorem NearestEven.neg {w : ℝ} {n : ℤ} (h : NearestEven w n) : NearestEven (-w) (-n) := by
  obtain ⟨hle, heven⟩ := h
  have habs : |-w - ((-n : ℤ) : ℝ)| = |w - n| := by
    rw [← abs_neg]
    push_cast
    ring_nf
  rw [NearestEven, habs]
  exact ⟨hle, fun he => (heven he).neg⟩

theorem NearestEven.signed {w : ℝ} {n : ℕ} (h : NearestEven w n) (neg : Bool) :
    NearestEven (signedReal neg w) (signedInt neg n) := by
  cases neg
  · exact h
  · exact h.neg

/-- The nearest integer to w is the floor or the next one, on the nearer side of the middle. -/
theorem NearestEven.floor_cases {w : ℝ} {n : ℕ} (h : NearestEven w n) (h0 : 0 ≤ w) :
    (n = ⌊w⌋₊ ∧ 2 * w ≤ 2 * ⌊w⌋₊ + 1) ∨ (n = ⌊w⌋₊ + 1 ∧ 2 * ⌊w⌋₊ + 1 ≤ 2 * w) := by
  have hlow := Nat.floor_le h0
  have hhigh := Nat.lt_floor_add_one w
  obtain ⟨hle, hge⟩ := abs_le.1 h.1
  rw [Int.cast_natCast] at hle hge
  have h1 : ⌊w⌋₊ < n + 1 := by exact_mod_cast (by linarith : (⌊w⌋₊ : ℝ) < n + 1)
  have h2 : n < ⌊w⌋₊ + 2 := by exact_mod_cast (by linarith : (n : ℝ) < ⌊w⌋₊ + 2)
  obtain rfl | rfl : n = ⌊w⌋₊ ∨ n = ⌊w⌋₊ + 1 := by omega
  · exact .inl ⟨rfl, by linarith⟩
  · push_cast at hle
    exact .inr ⟨rfl, by linarith⟩

/-- In the middle between two integers the even one is chosen. -/
theorem NearestEven.even_of_middle {w : ℝ} {n : ℕ} (h : NearestEven w n) (h0 : 0 ≤ w) (hw : 2 * w = 2 * ⌊w⌋₊ + 1) : Even n := by
  refine (Int.even_coe_nat n).1 (h.2 ?_)
  have hmid : w = ⌊w⌋₊ + 1 / 2 := by linarith
  obtain ⟨hn, -⟩ | ⟨hn, -⟩ := h.floor_cases h0
  · rw [hmid, ← hn]
    push_cast
    norm_num
  · rw [hmid, hn]
    push_cast
    norm_num [abs_of_neg]

/-- `roundsUp` decides for q + (r + θ) / 2H, where `sticky` says that θ is not 0. -/
theorem nearestEven_of_roundsUp {neg sticky : Bool} {q r k : Nat} {θ : ℝ} (hk : k ≠ 0) (hr : r < 2 ^ k) (hθ : 0 ≤ θ)
    (hθ1 : θ < 1) (hs : sticky = true ↔ θ ≠ 0) :
    NearestEven (q + (r + θ) / 2 ^ k) ((q + if roundsUp .nearestEven neg q r k sticky then 1 else 0 : ℕ) : ℤ) := by
  obtain ⟨j, rfl⟩ := Nat.exists_eq_succ_of_ne_zero hk
  have hpow : 2 ^ (j + 1) = 2 * 2 ^ j := Nat.pow_succ'
  have hH : (0 : ℝ) < 2 ^ j := by positivity
  rw [Nat.succ_eq_add_one, hpow] at hr
  rw [show (2 : ℝ) ^ (j + 1) = 2 * 2 ^ j from pow_succ' _ _]
  have hfrac : ∀ x : ℝ, x < (r + θ) / (2 * 2 ^ j) ↔ x * (2 * 2 ^ j) < r + θ := fun x => lt_div_iff₀ (by positivity)
  have hfrac' : ∀ x : ℝ, (r + θ) / (2 * 2 ^ j) < x ↔ r + θ < x * (2 * 2 ^ j) := fun x => div_lt_iff₀ (by positivity)
  have hpos : 0 ≤ (r + θ) / (2 * 2 ^ j) := by positivity
  have hlt1 : (r + θ) / (2 * 2 ^ j) < 1 := by
    rw [hfrac']
    have : ((r + 1 : ℕ) : ℝ) ≤ (2 * 2 ^ j : ℕ) := Nat.cast_le.2 hr
    push_cast at this
    linarith
  simp only [roundsUp, Nat.succ_eq_add_one, hpow]
  rcases Nat.lt_trichotomy r (2 ^ j) with hlt | heq | hgt
  · have hhalf : (r + θ) / (2 * 2 ^ j) < 1 / 2 := by
      rw [hfrac']
      have : ((r + 1 : ℕ) : ℝ) ≤ (2 ^ j : ℕ) := Nat.cast_le.2 hlt
      push_cast at this
      linarith
    rw [if_neg (by simp; omega)]
    refine .of_lt (abs_lt.2 ⟨?_, ?_⟩) <;> push_cast <;> linarith
  · have hr' : (r : ℝ) = 2 ^ j := by rw [heq]; push_cast; rfl
    cases sticky with
    | true =>
      have hhalf : 1 / 2 < (r + θ) / (2 * 2 ^ j) := by
        have : 0 < θ := lt_of_le_of_ne hθ (hs.1 rfl).symm
        rw [hfrac]
        linarith
      rw [if_pos (by simp [heq])]
      refine .of_lt (abs_lt.2 ⟨?_, ?_⟩) <;> push_cast <;> linarith
    | false =>
      have hθ0 : θ = 0 := by simpa using hs
      have hhalf : (r + θ) / (2 * 2 ^ j) = 1 / 2 := by
        rw [hθ0, hr']
        field_simp
        ring
      rw [hhalf]
      rcases Nat.even_or_odd q with heven | hodd
      · rw [if_neg (by simp [heq, Nat.even_iff.1 heven])]
        exact ⟨by norm_num, fun _ => by simpa using heven⟩
      · rw [if_pos (by simp [heq, Nat.odd_iff.1 hodd])]
        refine ⟨?_, fun _ => by exact_mod_cast hodd.add_one⟩
        push_cast
        norm_num [abs_of_neg]
  · have hhalf : 1 / 2 < (r + θ) / (2 * 2 ^ j) := by
      rw [hfrac]
      have : ((2 ^ j + 1 : ℕ) : ℝ) ≤ r := Nat.cast_le.2 hgt
      push_cast at this
      linarith
    rw [if_pos (by simp; omega)]
    refine .of_lt (abs_lt.2 ⟨?_, ?_⟩) <;> push_cast <;> linarith

/-- `roundAt` rounds (m + θ) * 2 ^ e, in units of 2 ^ u, to nearest with ties to even. -/
theorem nearestEven_roundAt {neg sticky : Bool} {m : Nat} {e u : ℤ} {θ : ℝ} (hθ : 0 ≤ θ) (hθ1 : θ < 1)
    (hs : sticky = true ↔ θ ≠ 0) (hu : sticky = true → e < u) :
    NearestEven ((m + θ) * 2 ^ (e - u)) (roundAt .nearestEven neg m e u sticky : ℕ) := by
  rw [roundAt]
  split
  case isTrue hle =>
    have hθ0 : θ = 0 := by
      by_contra hne
      exact absurd (hu (hs.2 hne)) (not_lt.2 hle)
    obtain ⟨k, hk⟩ := Int.eq_ofNat_of_zero_le (sub_nonneg.2 hle)
    have hcast : (m + θ) * 2 ^ (e - u) = ((m <<< (e - u).toNat : ℕ) : ℤ) := by
      rw [hθ0, hk, Int.toNat_natCast, Nat.shiftLeft_eq, zpow_natCast]
      push_cast
      ring
    rw [hcast]
    exact nearestEven_self _
  case isFalse hlt =>
    obtain ⟨k, hk⟩ := Int.eq_ofNat_of_zero_le (sub_nonneg.2 (not_le.1 hlt).le)
    have hw : (m + θ) * 2 ^ (e - u) = (m / 2 ^ k : ℕ) + ((m % 2 ^ k : ℕ) + θ) / 2 ^ k := by
      have hm : (m : ℝ) = (2 ^ k * (m / 2 ^ k) + m % 2 ^ k : ℕ) := by rw [Nat.div_add_mod]
      rw [← neg_sub, hk, zpow_neg, zpow_natCast, hm]
      push_cast
      field_simp
      ring
    simp only [hk, Int.toNat_natCast, Nat.shiftRight_eq_div_pow, hw]
    exact nearestEven_of_roundsUp (by omega) (Nat.mod_lt _ (Nat.two_pow_pos _)) hθ hθ1 hs

/-- Nothing is left below the last bit of an exact significand. -/
theorem sticky_false_iff : false = true ↔ (0 : ℝ) ≠ 0 := by simp

/-- `roundAt` to an integer. -/
theorem nearestEven_roundAt_zero (neg : Bool) (m : Nat) (e : ℤ) :
    NearestEven (m * 2 ^ e) (roundAt .nearestEven neg m e 0 false : ℕ) := by
  have h := nearestEven_roundAt (neg := neg) (m := m) (e := e) (u := 0) le_rfl zero_lt_one sticky_false_iff
    (fun h => absurd h Bool.false_ne_true)
  rwa [add_zero, sub_zero] at h

end Integers

/-! ### Rounding to a format (R251)

Between two neighbouring patterns the nearer one is chosen; the patterns are counted on past infinity, where the choice of any of
them means overflow. -/

/-- `n` is the magnitude whose value is nearest to `a`, an even one if another is as near. -/
structure NearestMagnitude (fmt : Format) (a : ℝ) (n : Nat) : Prop where
  le : ∀ k, |fmt.magnitudeValue n - a| ≤ |fmt.magnitudeValue k - a|
  even : ∀ k, k ≠ n → |fmt.magnitudeValue n - a| = |fmt.magnitudeValue k - a| → n % 2 = 0

section Rounding
variable {fmt : Format}

/-- Of two neighbours, the one on the nearer side of the middle is the nearest of all; in the middle it must be even. -/
theorem nearestMagnitude_of_between {a : ℝ} {n N : Nat} (hle : fmt.magnitudeValue n ≤ a) (hlt : a < fmt.magnitudeValue (n + 1))
    (hN : N = n ∧ 2 * a ≤ fmt.magnitudeValue n + fmt.magnitudeValue (n + 1) ∨
      N = n + 1 ∧ fmt.magnitudeValue n + fmt.magnitudeValue (n + 1) ≤ 2 * a)
    (heven : 2 * a = fmt.magnitudeValue n + fmt.magnitudeValue (n + 1) → N % 2 = 0) : NearestMagnitude fmt a N := by
  have hside : ∀ k, k ≤ n ∧ fmt.magnitudeValue k ≤ fmt.magnitudeValue n ∧
        |fmt.magnitudeValue k - a| = a - fmt.magnitudeValue k ∨
      n + 1 ≤ k ∧ fmt.magnitudeValue (n + 1) ≤ fmt.magnitudeValue k ∧
        |fmt.magnitudeValue k - a| = fmt.magnitudeValue k - a := fun k => by
    rcases Nat.lt_or_ge n k with hk | hk
    · have hmono := fmt.magnitudeValue_strictMono.monotone hk
      exact .inr ⟨hk, hmono, abs_of_pos (by linarith)⟩
    · have hmono := fmt.magnitudeValue_strictMono.monotone hk
      exact .inl ⟨hk, hmono, abs_of_nonpos (by linarith) |>.trans (neg_sub _ _)⟩
  have hinj : ∀ {j k}, fmt.magnitudeValue j = fmt.magnitudeValue k → j = k :=
    fun h => fmt.magnitudeValue_strictMono.injective h
  obtain ⟨rfl, hmid⟩ | ⟨rfl, hmid⟩ := hN
  · have habs : |fmt.magnitudeValue N - a| = a - fmt.magnitudeValue N := abs_of_nonpos (by linarith) |>.trans (neg_sub _ _)
    refine ⟨fun k => ?_, fun k hk he => ?_⟩ <;> obtain ⟨-, hv, hd⟩ | ⟨-, hv, hd⟩ := hside k
    · linarith
    · linarith
    · exact absurd (hinj (by linarith)) hk
    · exact heven (by linarith)
  · have habs : |fmt.magnitudeValue (n + 1) - a| = fmt.magnitudeValue (n + 1) - a := abs_of_pos (by linarith)
    refine ⟨fun k => ?_, fun k hk he => ?_⟩ <;> obtain ⟨-, hv, hd⟩ | ⟨-, hv, hd⟩ := hside k
    · linarith
    · linarith
    · exact heven (by linarith)
    · exact absurd (hinj (by linarith)) hk

/-- Rounding the significand at the right place gives the nearest pattern. -/
theorem nearestMagnitude_encode (hfmt : fmt.Proper) {d N : Nat} {w : ℝ} (h0 : 0 ≤ w) (hw : w < 2 ^ (fmt.fracBits + 1))
    (hd : d = 0 ∨ 2 ^ fmt.fracBits ≤ w) (hN : NearestEven w N) :
    NearestMagnitude fmt (w * 2 ^ (fmt.minExp + d)) (d * 2 ^ fmt.fracBits + N) := by
  have hc : (0 : ℝ) < 2 ^ (fmt.minExp + d) := by positivity
  have hlt : ⌊w⌋₊ < 2 ^ (fmt.fracBits + 1) := (Nat.floor_lt h0).2 (by exact_mod_cast hw)
  have hd' : d = 0 ∨ 2 ^ fmt.fracBits ≤ ⌊w⌋₊ := hd.imp_right fun h => Nat.le_floor (by exact_mod_cast h)
  have hlow := fmt.magnitudeValue_encode hlt.le hd'
  have hhigh : fmt.magnitudeValue (d * 2 ^ fmt.fracBits + ⌊w⌋₊ + 1) = (⌊w⌋₊ + 1) * 2 ^ (fmt.minExp + d) := by
    have := fmt.magnitudeValue_encode (s := ⌊w⌋₊ + 1) hlt (hd'.imp_right fun h => h.trans (Nat.le_succ _))
    rwa [Nat.cast_succ] at this
  have hsum : (⌊w⌋₊ : ℝ) * 2 ^ (fmt.minExp + d) + (⌊w⌋₊ + 1) * 2 ^ (fmt.minExp + d) = (2 * ⌊w⌋₊ + 1) * 2 ^ (fmt.minExp + d) := by
    ring
  have hdouble : 2 * (w * (2 : ℝ) ^ (fmt.minExp + d)) = 2 * w * 2 ^ (fmt.minExp + d) := (mul_assoc ..).symm
  refine nearestMagnitude_of_between (n := d * 2 ^ fmt.fracBits + ⌊w⌋₊) ?_ ?_ ?_ fun he => ?_
  · rw [hlow]
    exact mul_le_mul_of_nonneg_right (Nat.floor_le h0) hc.le
  · rw [hhigh]
    exact mul_lt_mul_of_pos_right (Nat.lt_floor_add_one w) hc
  · rw [hlow, hhigh, hsum, hdouble]
    obtain ⟨rfl, hmid⟩ | ⟨rfl, hmid⟩ := hN.floor_cases h0
    · exact .inl ⟨rfl, mul_le_mul_of_nonneg_right hmid hc.le⟩
    · exact .inr ⟨rfl, mul_le_mul_of_nonneg_right hmid hc.le⟩
  · rw [hlow, hhigh, hsum, hdouble] at he
    have heven := hN.even_of_middle h0 (mul_right_cancel₀ hc.ne' he)
    exact Nat.even_iff.1 (((Format.even_two_pow_fracBits hfmt).mul_left d).add heven)

/-- The bound of overflow is the middle between the largest number and what the pattern of infinity would stand for. -/
theorem two_mul_overflowBound (hfmt : fmt.Proper) :
    2 * fmt.overflowBound = fmt.magnitudeValue (fmt.infBits - 1) + fmt.magnitudeValue fmt.infBits := by
  have hbound : fmt.overflowBound = (2 - 1 / 2 ^ (fmt.fracBits + 1)) * 2 ^ fmt.bias := rfl
  rw [hbound, Format.magnitudeValue_infBits hfmt, Format.magnitudeValue_largest hfmt, pow_succ, pow_succ]
  field_simp
  ring

/-- A value is rounded to infinity or beyond exactly from the bound of overflow on. -/
theorem NearestMagnitude.infBits_le_iff (hfmt : fmt.Proper) {a : ℝ} {n : Nat} (h : NearestMagnitude fmt a n) :
    fmt.infBits ≤ n ↔ fmt.overflowBound ≤ a := by
  have hbound := two_mul_overflowBound hfmt
  have hpos := Format.infBits_pos hfmt
  have hlt : fmt.magnitudeValue (fmt.infBits - 1) < fmt.magnitudeValue fmt.infBits :=
    fmt.magnitudeValue_strictMono (by omega)
  constructor
  · intro hn
    by_contra! ha
    have hmono := fmt.magnitudeValue_strictMono.monotone hn
    have hle := h.le (fmt.infBits - 1)
    rw [abs_of_pos (by linarith)] at hle
    rcases abs_cases (fmt.magnitudeValue (fmt.infBits - 1) - a) with ⟨he, -⟩ | ⟨he, -⟩ <;> linarith
  · intro ha
    by_contra! hn
    have hmono := fmt.magnitudeValue_strictMono.monotone (Nat.le_sub_one_of_lt hn)
    have hle := h.le fmt.infBits
    rw [abs_of_nonpos (by linarith)] at hle
    have htie : fmt.magnitudeValue n = fmt.magnitudeValue (fmt.infBits - 1) ∧
        |fmt.magnitudeValue n - a| = |fmt.magnitudeValue fmt.infBits - a| := by
      rw [abs_of_nonpos (by linarith : fmt.magnitudeValue n - a ≤ 0)]
      rcases abs_cases (fmt.magnitudeValue fmt.infBits - a) with ⟨he, -⟩ | ⟨he, -⟩
      · exact ⟨by linarith, by linarith⟩
      · linarith
    have hmax := fmt.magnitudeValue_strictMono.injective htie.1
    have heven := h.even _ hn.ne' htie.2
    have hinf := Nat.even_iff.1 (Format.even_infBits hfmt)
    omega

/-- The numbers lie below the bound of overflow. -/
theorem magnitudeValue_lt_overflowBound (hfmt : fmt.Proper) {n : Nat} (h : n < fmt.infBits) :
    fmt.magnitudeValue n < fmt.overflowBound := by
  have hbound := two_mul_overflowBound hfmt
  have hle := fmt.magnitudeValue_strictMono.monotone (Nat.le_sub_one_of_lt h)
  have hlt := fmt.magnitudeValue_strictMono h
  linarith

/-- With the sign put to it, the nearest magnitude is nearest among the numbers of both signs. -/
theorem NearestMagnitude.signed {a : ℝ} {n : Nat} (h : NearestMagnitude fmt a n) (ha : 0 < a) (neg s : Bool) (k : Nat) :
    |signedReal neg (fmt.magnitudeValue n) - signedReal neg a| ≤ |signedReal s (fmt.magnitudeValue k) - signedReal neg a| ∧
    (|signedReal neg (fmt.magnitudeValue n) - signedReal neg a| = |signedReal s (fmt.magnitudeValue k) - signedReal neg a| →
      signedReal s (fmt.magnitudeValue k) ≠ signedReal neg (fmt.magnitudeValue n) → n % 2 = 0) := by
  rw [abs_signedReal_sub]
  by_cases hs : s = neg
  · rw [hs, abs_signedReal_sub]
    exact ⟨h.le k, fun he hne => h.even k (fun hk => hne (by rw [hk])) he⟩
  · -- A number of the other sign is at least as far away as 0 is.
    have hzero := h.le 0
    have hnonneg := fmt.magnitudeValue_nonneg k
    have habs : |fmt.magnitudeValue 0 - a| = a := by rw [fmt.magnitudeValue_zero, zero_sub, abs_neg, abs_of_pos ha]
    rw [habs] at hzero
    rw [abs_signedReal_sub_of_ne hs hnonneg ha.le]
    refine ⟨by linarith, fun he hne => ?_⟩
    obtain rfl : k = 0 := by
      rw [← fmt.magnitudeValue_eq_zero_iff]
      linarith
    refine h.even 0 (fun hk => hne ?_) ?_
    · rw [← hk, fmt.magnitudeValue_zero, signedReal_zero, signedReal_zero]
    · rw [he, habs, fmt.magnitudeValue_zero, zero_add]

/-- The nearest magnitude with the sign put to it is the value rounded once. -/
theorem NearestMagnitude.isRounded (hfmt : fmt.Proper) {a : ℝ} {n : Nat} (h : NearestMagnitude fmt a n) (ha : 0 < a)
    (neg : Bool) : IsRounded fmt (signedReal neg a) (fpSigned fmt neg (min n fmt.infBits)) := by
  have hlt : min n fmt.infBits < fmt.signValue := (min_le_right _ _).trans_lt fmt.infBits_lt
  rw [IsRounded, signBit_fpSigned hlt, abs_signedReal, abs_of_pos ha]
  refine ⟨fpSigned_lt hlt, ?_, ?_⟩
  · cases neg <;> simp [ha, ha.le]
  split
  case isTrue hover =>
    rw [min_eq_right ((h.infBits_le_iff hfmt).2 hover)] at hlt ⊢
    exact fpMagnitude_fpSigned hlt
  case isFalse hover =>
    have hn : n < fmt.infBits := not_le.1 fun hn => hover ((h.infBits_le_iff hfmt).1 hn)
    rw [min_eq_left hn.le] at hlt ⊢
    refine ⟨(isFinite_fpSigned_iff hlt).2 hn, fun q _ => ?_⟩
    rw [value_fpSigned fmt hlt, fmt.value_eq q, fpSigned_mod_two hfmt]
    exact h.signed ha neg (fmt.signBit q) (fpMagnitude fmt q)

end Rounding

/-! ### What `roundNearest` computes (R251) -/

/-- `r` is the real number `v` rounded once, or, where `v` is 0, the zero with the given sign. -/
def RoundsTo (fmt : Format) (v : ℝ) (zeroNeg : Bool) (r : FpResult) : Prop :=
  (v ≠ 0 → ∃ p, r = .bits p ∧ IsRounded fmt v p) ∧ (v = 0 → r = .bits (fmt.zero zeroNeg))

section RoundNearest
variable {fmt : Format} {neg sticky : Bool} {m : Nat} {e : ℤ} {θ : ℝ}

/-- Where the last place of a result stands: the significand fits, and it is that of a normal number above the lowest place. -/
theorem scaled_bounds (hm : m ≠ 0) (hθ : 0 ≤ θ) (hθ1 : θ < 1) :
    (m + θ) * 2 ^ (e - ulpExp fmt m e) < (2 : ℝ) ^ (fmt.fracBits + 1) ∧
    (ulpExp fmt m e = fmt.minExp ∨ (2 : ℝ) ^ fmt.fracBits ≤ (m + θ) * 2 ^ (e - ulpExp fmt m e)) := by
  have hlow : (2 : ℝ) ^ (Nat.log2 m : ℤ) ≤ m + θ := by
    have : ((2 ^ Nat.log2 m : ℕ) : ℝ) ≤ m := Nat.cast_le.2 (Nat.log2_self_le hm)
    rw [zpow_natCast]
    push_cast at this
    linarith
  have hhigh : m + θ < (2 : ℝ) ^ (Nat.log2 m + 1 : ℤ) := by
    have : ((m + 1 : ℕ) : ℝ) ≤ (2 ^ (Nat.log2 m + 1) : ℕ) := Nat.cast_le.2 Nat.lt_log2_self
    rw [← Nat.cast_succ, Nat.succ_eq_add_one, zpow_natCast]
    push_cast at this
    linarith
  constructor
  · calc (m + θ) * 2 ^ (e - ulpExp fmt m e) < 2 ^ (Nat.log2 m + 1 : ℤ) * 2 ^ (e - ulpExp fmt m e) := by gcongr
      _ = 2 ^ (Nat.log2 m + 1 + (e - ulpExp fmt m e) : ℤ) := (zpow_add₀ two_ne_zero _ _).symm
      _ ≤ 2 ^ ((fmt.fracBits + 1 : ℕ) : ℤ) := by
        gcongr
        · exact one_le_two
        · have : e + Nat.log2 m - fmt.fracBits ≤ ulpExp fmt m e := le_max_left _ _
          push_cast
          linarith
      _ = 2 ^ (fmt.fracBits + 1) := zpow_natCast _ _
  · rcases max_choice (e + Nat.log2 m - fmt.fracBits : ℤ) fmt.minExp with h | h
    · right
      rw [ulpExp, h]
      calc (2 : ℝ) ^ fmt.fracBits = 2 ^ (Nat.log2 m : ℤ) * 2 ^ (e - (e + Nat.log2 m - fmt.fracBits)) := by
            rw [← zpow_add₀ two_ne_zero, ← zpow_natCast]
            congr 1
            ring
        _ ≤ (m + θ) * 2 ^ (e - (e + Nat.log2 m - fmt.fracBits)) := by gcongr
    · exact .inl h

/-- `roundNearest` answers the magnitude nearest to (m + θ) * 2 ^ e, where `sticky` says that θ is not 0; then m must be longer than
the significand. -/
theorem exists_nearest_roundNearest (hfmt : fmt.Proper) (hm : m ≠ 0) (hθ : 0 ≤ θ) (hθ1 : θ < 1)
    (hs : sticky = true ↔ θ ≠ 0) (hprec : sticky = true → fmt.fracBits < Nat.log2 m) :
    ∃ n, roundNearest fmt neg m e sticky = .bits (fpSigned fmt neg (min n fmt.infBits)) ∧
      NearestMagnitude fmt ((m + θ) * 2 ^ e) n := by
  obtain ⟨hw, hd⟩ := scaled_bounds (fmt := fmt) (e := e) hm hθ hθ1
  have hmin : fmt.minExp ≤ ulpExp fmt m e := le_max_right _ _
  have hulp : e + Nat.log2 m - fmt.fracBits ≤ ulpExp fmt m e := le_max_left _ _
  obtain ⟨d, hdu⟩ := Int.eq_ofNat_of_zero_le (sub_nonneg.2 hmin)
  refine ⟨_, if_neg hm, ?_⟩
  have hscale : (m + θ) * (2 : ℝ) ^ e = (m + θ) * 2 ^ (e - ulpExp fmt m e) * 2 ^ (fmt.minExp + d) := by
    rw [mul_assoc, ← zpow_add₀ two_ne_zero]
    congr 2
    linarith
  rw [hscale, hdu, Int.toNat_natCast]
  refine nearestMagnitude_encode hfmt (by positivity) hw (hd.imp_left fun h => ?_) (nearestEven_roundAt hθ hθ1 hs fun h => ?_)
  · rw [h, sub_self] at hdu
    exact_mod_cast hdu.symm
  · have : (fmt.fracBits : ℤ) < Nat.log2 m := by exact_mod_cast hprec h
    linarith

/-- A value between two significands, rounded. -/
theorem roundNearest_sticky_roundsTo (hfmt : fmt.Proper) (hm : m ≠ 0) (hθ : 0 ≤ θ) (hθ1 : θ < 1)
    (hs : sticky = true ↔ θ ≠ 0) (hprec : sticky = true → fmt.fracBits < Nat.log2 m) (zeroNeg : Bool) :
    RoundsTo fmt (signedReal neg ((m + θ) * 2 ^ e)) zeroNeg (roundNearest fmt neg m e sticky) := by
  obtain ⟨n, hn, hnear⟩ := exists_nearest_roundNearest (neg := neg) (e := e) hfmt hm hθ hθ1 hs hprec
  have hpos : 0 < (m + θ) * (2 : ℝ) ^ e := by
    have : (0 : ℝ) < m := Nat.cast_pos.2 (Nat.pos_of_ne_zero hm)
    positivity
  exact ⟨fun _ => ⟨_, hn, hnear.isRounded hfmt hpos neg⟩, fun h0 => absurd (signedReal_eq_zero_iff.1 h0) hpos.ne'⟩

/-- A value with a significand, rounded. -/
theorem roundNearest_roundsTo (hfmt : fmt.Proper) :
    RoundsTo fmt (signedReal neg (m * 2 ^ e)) neg (roundNearest fmt neg m e false) := by
  rcases eq_or_ne m 0 with rfl | hm
  · exact ⟨fun h => absurd (by simp) h, fun _ => fpZero_eq fmt neg⟩
  · simpa using roundNearest_sticky_roundsTo (neg := neg) (e := e) hfmt hm le_rfl zero_lt_one
      sticky_false_iff (by simp) neg

/-- A value that the format represents is not changed. -/
theorem roundNearest_of_representable (hfmt : fmt.Proper) {k : Nat} (hk : (m : ℝ) * 2 ^ e = fmt.magnitudeValue k)
    (hlt : k < fmt.infBits) : roundNearest fmt neg m e false = .bits (fpSigned fmt neg k) := by
  rcases eq_or_ne m 0 with rfl | hm
  · obtain rfl : k = 0 := by rw [← fmt.magnitudeValue_eq_zero_iff, ← hk]; simp
    rfl
  · obtain ⟨n, hn, hnear⟩ := exists_nearest_roundNearest (θ := 0) (neg := neg) (e := e) hfmt hm le_rfl zero_lt_one
      sticky_false_iff (by simp)
    have hle := hnear.le k
    rw [add_zero, hk, sub_self, abs_zero] at hle
    obtain rfl : n = k := fmt.magnitudeValue_strictMono.injective (sub_eq_zero.1 (abs_nonpos_iff.1 hle))
    rw [hn, min_eq_left hlt.le]

/-- Every short significand at or above the lowest place is a magnitude of the format. -/
theorem exists_magnitudeValue_eq (hm : m < 2 ^ (fmt.fracBits + 1)) (he : fmt.minExp ≤ e) :
    ∃ k, fmt.magnitudeValue k = m * 2 ^ e := by
  obtain ⟨d, rfl⟩ := Int.le.dest he
  clear he
  induction d generalizing m with
  | zero => exact ⟨_, fmt.magnitudeValue_encode hm.le (.inl rfl)⟩
  | succ d ih =>
    rcases Nat.lt_or_ge m (2 ^ fmt.fracBits) with hlt | hge
    · obtain ⟨k, hk⟩ := ih (m := 2 * m) (by rw [Nat.pow_succ]; omega)
      refine ⟨k, hk.trans ?_⟩
      rw [Nat.cast_succ, ← add_assoc, zpow_add_one₀ two_ne_zero]
      push_cast
      ring
    · exact ⟨_, fmt.magnitudeValue_encode hm.le (.inr hge)⟩

end RoundNearest

/-! ### Sums and products of numbers (R255 to R260, R275 to R278) -/

section Finite
variable {fmt : Format}

/-- A number is read as a short significand at an exponent not below the lowest place. -/
theorem exists_unpack_eq_finite {p : Nat} (h : fmt.isFinite p) :
    ∃ m e, unpack fmt p = .finite (fmt.signBit p) m e ∧ fmt.value p = signedReal (fmt.signBit p) (m * 2 ^ e) ∧
      m < 2 ^ (fmt.fracBits + 1) ∧ fmt.minExp ≤ e :=
  ⟨_, _, unpack_of_isFinite h, fmt.value_eq p, fmt.significand_lt _, by linarith [Int.natCast_nonneg (fmt.lastPlace (fpMagnitude fmt p))]⟩

/-- The magnitude of a number from its significand. -/
theorem abs_eq_of_eq_signedReal {v : ℝ} {neg : Bool} {m : Nat} {e : ℤ} (h : v = signedReal neg (m * 2 ^ e)) :
    |v| = m * 2 ^ e := by
  rw [h, abs_signedReal, abs_of_nonneg (by positivity)]

/-- The significand of a number is 0 exactly for the zeros. -/
theorem significand_eq_zero_iff {v : ℝ} {neg : Bool} {m : Nat} {e : ℤ} (h : v = signedReal neg (m * 2 ^ e)) : m = 0 ↔ v = 0 := by
  have : (2 : ℝ) ^ e ≠ 0 := by positivity
  rw [h, signedReal_eq_zero_iff, mul_eq_zero, or_iff_left this, Nat.cast_eq_zero]

/-- A significand brought to a lower exponent. -/
theorem shiftLeft_mul_zpow (m : Nat) {e e' : ℤ} (h : e' ≤ e) : ((m <<< (e - e').toNat : ℕ) : ℝ) * 2 ^ e' = m * 2 ^ e := by
  obtain ⟨k, hk⟩ := Int.eq_ofNat_of_zero_le (sub_nonneg.2 h)
  obtain rfl : e = e' + k := by linarith
  rw [hk, Int.toNat_natCast, Nat.shiftLeft_eq, zpow_add₀ two_ne_zero, zpow_natCast]
  push_cast
  ring

theorem signedReal_natAbs (v : ℤ) : signedReal (decide (v < 0)) v.natAbs = v := by
  rcases lt_or_ge v 0 with h | h
  · rw [decide_eq_true h, signedReal_true, Nat.cast_natAbs, abs_of_neg h]
    push_cast
    ring
  · rw [decide_eq_false h.not_gt, signedReal_false, Nat.cast_natAbs, abs_of_nonneg h]

/-- The sum of two numbers is rounded once; a sum that is 0 is -0 exactly if both are negative. -/
theorem addFinite_roundsTo (hfmt : fmt.Proper) (na nb : Bool) (ma mb : Nat) (ea eb : ℤ) :
    RoundsTo fmt (signedReal na (ma * 2 ^ ea) + signedReal nb (mb * 2 ^ eb)) (na && nb) (addFinite fmt na ma ea nb mb eb) := by
  have hexact : ((signedInt na (ma <<< (ea - min ea eb).toNat) + signedInt nb (mb <<< (eb - min ea eb).toNat) : ℤ) : ℝ) *
      2 ^ min ea eb = signedReal na (ma * 2 ^ ea) + signedReal nb (mb * 2 ^ eb) := by
    rw [← shiftLeft_mul_zpow ma (min_le_left ea eb), ← shiftLeft_mul_zpow mb (min_le_right ea eb)]
    push_cast
    rw [signedReal_mul, signedReal_mul, add_mul]
    simp only [cast_signedInt]
  rw [← hexact, addFinite]
  generalize signedInt na _ + signedInt nb _ = v
  have hscale : (2 : ℝ) ^ min ea eb ≠ 0 := by positivity
  split
  case isTrue h => exact ⟨fun h0 => absurd (by simp [h]) h0, fun _ => fpZero_eq _ _⟩
  case isFalse h =>
    rw [← signedReal_natAbs v, ← signedReal_mul]
    refine ⟨(roundNearest_roundsTo hfmt).1, fun h0 => absurd ?_ h⟩
    rwa [signedReal_mul, signedReal_natAbs, mul_eq_zero, or_iff_left hscale, Int.cast_eq_zero] at h0

variable {a b c : Nat}

theorem fpAdd_roundsTo (hfmt : fmt.Proper) (ha : fmt.isFinite a) (hb : fmt.isFinite b) :
    RoundsTo fmt (fmt.value a + fmt.value b) (fmt.signBit a && fmt.signBit b) (fpAdd fmt a b) := by
  obtain ⟨ma, ea, hua, hva, -⟩ := exists_unpack_eq_finite ha
  obtain ⟨mb, eb, hub, hvb, -⟩ := exists_unpack_eq_finite hb
  rw [fpAdd, hua, hub, hva, hvb]
  exact addFinite_roundsTo hfmt ..

theorem fpSub_roundsTo (hfmt : fmt.Proper) (ha : fmt.isFinite a) (hb : fmt.isFinite b) :
    RoundsTo fmt (fmt.value a - fmt.value b) (fmt.signBit a && !fmt.signBit b) (fpSub fmt a b) := by
  obtain ⟨ma, ea, hua, hva, -⟩ := exists_unpack_eq_finite ha
  obtain ⟨mb, eb, hub, hvb, -⟩ := exists_unpack_eq_finite hb
  rw [fpSub, hua, hub, hva, hvb, sub_eq_add_neg, ← signedReal_not]
  exact addFinite_roundsTo hfmt ..

/-- The exact product of two numbers. -/
theorem signedReal_product (na nb : Bool) (ma mb : Nat) (ea eb : ℤ) :
    signedReal na (ma * 2 ^ ea) * signedReal nb (mb * 2 ^ eb) =
      signedReal (na ^^ nb) ((ma * mb : ℕ) * 2 ^ (ea + eb)) := by
  rw [signedReal_mul_signedReal, zpow_add₀ two_ne_zero]
  push_cast
  ring_nf

theorem fpMul_roundsTo (hfmt : fmt.Proper) (ha : fmt.isFinite a) (hb : fmt.isFinite b) :
    RoundsTo fmt (fmt.value a * fmt.value b) (fmt.signBit a ^^ fmt.signBit b) (fpMul fmt a b) := by
  obtain ⟨ma, ea, hua, hva, -⟩ := exists_unpack_eq_finite ha
  obtain ⟨mb, eb, hub, hvb, -⟩ := exists_unpack_eq_finite hb
  rw [fpMul, hua, hub, hva, hvb, signedReal_product]
  exact roundNearest_roundsTo hfmt

theorem fpMaddf_roundsTo (hfmt : fmt.Proper) (hc : fmt.isFinite c) (ha : fmt.isFinite a) (hb : fmt.isFinite b) :
    RoundsTo fmt (fmt.value c + fmt.value a * fmt.value b) (fmt.signBit c && (fmt.signBit a ^^ fmt.signBit b))
      (fpMaddf fmt c a b) := by
  obtain ⟨mc, ec, huc, hvc, -⟩ := exists_unpack_eq_finite hc
  obtain ⟨ma, ea, hua, hva, -⟩ := exists_unpack_eq_finite ha
  obtain ⟨mb, eb, hub, hvb, -⟩ := exists_unpack_eq_finite hb
  rw [fpMaddf, huc, hua, hub, hvc, hva, hvb, signedReal_product]
  exact addFinite_roundsTo hfmt ..

/-- MSUBF of a minuend that is not a NaN is the fused sum with the first factor negated. -/
theorem fpMsubf_of_not_isNaN (hc : fpIsNaN fmt c = false) :
    fpMsubf fmt c a b = fusedValues fmt (unpack fmt c) (unpack fmt a).negate (unpack fmt b) :=
  if_neg (by simp [hc])

theorem fpMsubf_roundsTo (hfmt : fmt.Proper) (hc : fmt.isFinite c) (ha : fmt.isFinite a) (hb : fmt.isFinite b) :
    RoundsTo fmt (fmt.value c - fmt.value a * fmt.value b) (fmt.signBit c && !(fmt.signBit a ^^ fmt.signBit b))
      (fpMsubf fmt c a b) := by
  obtain ⟨mc, ec, huc, hvc, -⟩ := exists_unpack_eq_finite hc
  obtain ⟨ma, ea, hua, hva, -⟩ := exists_unpack_eq_finite ha
  obtain ⟨mb, eb, hub, hvb, -⟩ := exists_unpack_eq_finite hb
  rw [fpMsubf_of_not_isNaN hc.isNaN_eq_false, huc, hua, hub, hvc, hva, hvb, signedReal_product, sub_eq_add_neg, ← signedReal_not,
    ← Bool.not_xor]
  exact addFinite_roundsTo hfmt ..

end Finite

/-! ### Infinite products and sums (R251, R259, R275, R277) -/

/-- Two values whose product is the infinity with the given sign. -/
inductive InfiniteProductOf : FpValue → FpValue → Bool → Prop where
  | inf_inf (na nb : Bool) : InfiniteProductOf (.inf na) (.inf nb) (na ^^ nb)
  | inf_finite (na nb : Bool) {m : Nat} (e : ℤ) (hm : m ≠ 0) : InfiniteProductOf (.inf na) (.finite nb m e) (na ^^ nb)
  | finite_inf (na nb : Bool) {m : Nat} (e : ℤ) (hm : m ≠ 0) : InfiniteProductOf (.finite na m e) (.inf nb) (na ^^ nb)

section Infinite
variable {fmt : Format} {a b : Nat}

theorem Format.InfiniteProduct.unpack (h : fmt.InfiniteProduct a b) :
    InfiniteProductOf (unpack fmt a) (unpack fmt b) (fmt.signBit a ^^ fmt.signBit b) := by
  obtain ⟨⟨na, rfl⟩, ⟨nb, rfl⟩ | ⟨hb, hb0⟩⟩ | ⟨⟨ha, ha0⟩, ⟨nb, rfl⟩⟩ := h
  · simpa using InfiniteProductOf.inf_inf na nb
  · obtain ⟨m, e, hu, hv, -⟩ := exists_unpack_eq_finite hb
    rw [hu, unpack_infinity, signBit_infinity]
    exact .inf_finite na _ e (mt (significand_eq_zero_iff hv).1 hb0)
  · obtain ⟨m, e, hu, hv, -⟩ := exists_unpack_eq_finite ha
    rw [hu, unpack_infinity, signBit_infinity]
    exact .finite_inf _ nb e (mt (significand_eq_zero_iff hv).1 ha0)

theorem InfiniteProductOf.negate {x y : FpValue} {s : Bool} (h : InfiniteProductOf x y s) :
    InfiniteProductOf x.negate y (!s) := by
  cases h with
  | inf_inf na nb => exact Bool.not_xor na nb ▸ .inf_inf (!na) nb
  | inf_finite na nb e hm => exact Bool.not_xor na nb ▸ .inf_finite (!na) nb e hm
  | finite_inf na nb e hm => exact Bool.not_xor na nb ▸ .finite_inf (!na) nb e hm

/-- A fused sum with an infinite product is the sum with that infinity. -/
theorem InfiniteProductOf.fusedValues_eq {x y : FpValue} {s : Bool} (h : InfiniteProductOf x y s) (c : FpValue) :
    fusedValues fmt c x y = addValues fmt c (.inf s) := by
  cases h with
  | inf_inf na nb => rfl
  | inf_finite na nb e hm => exact if_neg hm
  | finite_inf na nb e hm => exact if_neg hm

theorem fpMul_of_infiniteProduct (h : fmt.InfiniteProduct a b) :
    fpMul fmt a b = .bits (fmt.infinity (fmt.signBit a ^^ fmt.signBit b)) := by
  have hvalues := h.unpack
  rw [← fpInf_eq, fpMul]
  generalize unpack fmt a = va, unpack fmt b = vb, (fmt.signBit a ^^ fmt.signBit b) = s at hvalues
  cases hvalues with
  | inf_inf na nb => rfl
  | inf_finite na nb e hm => exact if_neg hm
  | finite_inf na nb e hm => exact if_neg hm

theorem fpMaddf_of_infiniteProduct (h : fmt.InfiniteProduct a b) (c : Nat) :
    fpMaddf fmt c a b = addValues fmt (unpack fmt c) (.inf (fmt.signBit a ^^ fmt.signBit b)) :=
  h.unpack.fusedValues_eq _

theorem fpMsubf_of_infiniteProduct (h : fmt.InfiniteProduct a b) {c : Nat} (hc : fpIsNaN fmt c = false) :
    fpMsubf fmt c a b = addValues fmt (unpack fmt c) (.inf (!(fmt.signBit a ^^ fmt.signBit b))) := by
  rw [fpMsubf_of_not_isNaN hc]
  exact h.unpack.negate.fusedValues_eq _

/-! Sums with an infinity. -/

theorem addValues_inf_finite (n : Bool) {x : FpValue} (hx : ∃ s m e, x = .finite s m e) :
    addValues fmt (.inf n) x = .bits (fmt.infinity n) ∧ addValues fmt x (.inf n) = .bits (fmt.infinity n) := by
  obtain ⟨s, m, e, rfl⟩ := hx
  exact ⟨fpInf_eq fmt n, fpInf_eq fmt n⟩

theorem addValues_inf_inf (n : Bool) : addValues fmt (.inf n) (.inf n) = .bits (fmt.infinity n) := by
  rw [← fpInf_eq]
  exact if_pos rfl

theorem addValues_inf_not (n : Bool) : addValues fmt (.inf n) (.inf (!n)) = .invalid := if_neg (by cases n <;> decide)

theorem exists_unpack_finite {p : Nat} (h : fmt.isFinite p) : ∃ s m e, unpack fmt p = .finite s m e :=
  ⟨_, _, _, unpack_of_isFinite h⟩

theorem exists_negate_unpack_finite {p : Nat} (h : fmt.isFinite p) : ∃ s m e, (unpack fmt p).negate = .finite s m e :=
  ⟨_, _, _, congrArg FpValue.negate (unpack_of_isFinite h)⟩

end Infinite

/-- Settles O51: sums and products of numbers are exact before the one rounding; an infinity decides the rest. -/
theorem addSubMulRoundOnce : Obligations.AddSubMulRoundOnce := by
  intro fmt hmem a b x y inf zero
  have hfmt := Format.proper_of_mem hmem
  refine ⟨fun ha hb => ?numbers, fun n ha => ?oneInfinity, fun n => ?twoInfinities, fpMul_of_infiniteProduct⟩
  case numbers =>
    have hadd := fpAdd_roundsTo hfmt ha hb
    have hsub := fpSub_roundsTo hfmt ha hb
    have hmul := fpMul_roundsTo hfmt ha hb
    exact ⟨hadd.1, hadd.2, hsub.1, hsub.2, hmul.1, hmul.2⟩
  case oneInfinity =>
    simp only [fpAdd, fpSub, unpack_infinity]
    exact ⟨(addValues_inf_finite n (exists_unpack_finite ha)).2, (addValues_inf_finite n (exists_unpack_finite ha)).1,
      (addValues_inf_finite (!n) (exists_unpack_finite ha)).2, (addValues_inf_finite n (exists_negate_unpack_finite ha)).1⟩
  case twoInfinities =>
    simp only [fpAdd, fpSub, unpack_infinity, FpValue.negate, Bool.not_not]
    exact ⟨addValues_inf_inf n, addValues_inf_inf n⟩

/-- The fused sum of an addend and the product of two numbers is a sum of the addend and a number. -/
theorem exists_fusedValues_eq_addValues (fmt : Format) (c : FpValue) {x y : FpValue} (hx : ∃ s m e, x = .finite s m e)
    (hy : ∃ s m e, y = .finite s m e) : ∃ z, (∃ s m e, z = .finite s m e) ∧ fusedValues fmt c x y = addValues fmt c z := by
  obtain ⟨sx, mx, ex, rfl⟩ := hx
  obtain ⟨sy, my, ey, rfl⟩ := hy
  exact ⟨_, ⟨_, _, _, rfl⟩, rfl⟩

/-- Settles O53: the exact product goes unrounded into the sum; an infinite addend or product decides the rest. -/
theorem fusedOperationsRoundOnce : Obligations.FusedOperationsRoundOnce := by
  intro fmt hmem c a b z x y inf zero sign
  have hfmt := Format.proper_of_mem hmem
  refine ⟨fun hc ha hb => ?numbers, fun n ha hb => ?infiniteAddend, fun hab => ⟨fun hc => ?infiniteProduct, ?both⟩⟩
  case numbers =>
    have hmaddf := fpMaddf_roundsTo hfmt hc ha hb
    have hmsubf := fpMsubf_roundsTo hfmt hc ha hb
    exact ⟨hmaddf.1, hmaddf.2, hmsubf.1, hmsubf.2⟩
  case infiniteAddend =>
    obtain ⟨p, hp, hmaddf⟩ := exists_fusedValues_eq_addValues fmt (.inf n) (exists_unpack_finite ha) (exists_unpack_finite hb)
    obtain ⟨q, hq, hmsubf⟩ :=
      exists_fusedValues_eq_addValues fmt (.inf n) (exists_negate_unpack_finite ha) (exists_unpack_finite hb)
    rw [fpMaddf, fpMsubf_of_not_isNaN (fpIsNaN_infinity fmt n), unpack_infinity, hmaddf, hmsubf]
    exact ⟨(addValues_inf_finite n hp).1, (addValues_inf_finite n hq).1⟩
  case infiniteProduct =>
    rw [fpMaddf_of_infiniteProduct hab, fpMsubf_of_infiniteProduct hab hc.isNaN_eq_false]
    exact ⟨(addValues_inf_finite _ (exists_unpack_finite hc)).2, (addValues_inf_finite _ (exists_unpack_finite hc)).2⟩
  case both =>
    rw [fpMaddf_of_infiniteProduct hab, fpMsubf_of_infiniteProduct hab (fpIsNaN_infinity fmt _), unpack_infinity, unpack_infinity]
    exact ⟨addValues_inf_inf _, addValues_inf_inf _⟩

/-! ### Quotients (R261, R262, R271, R272) -/

section Division
variable {fmt : Format}

/-- The quotient of two numbers with significands that are not 0, rounded once: the integer quotient is longer than the significand
and the remainder says whether it is exact. -/
theorem divFinite_roundsTo (hfmt : fmt.Proper) {na nb : Bool} {ma mb : Nat} {ea eb : ℤ} (hb : mb ≠ 0) :
    RoundsTo fmt (signedReal na (ma * 2 ^ ea) / signedReal nb (mb * 2 ^ eb)) (na ^^ nb)
      (divFinite fmt (na ^^ nb) ma ea mb eb) := by
  rcases eq_or_ne ma 0 with rfl | ha
  · refine ⟨fun h => absurd (by simp) h, fun _ => ?_⟩
    simp [divFinite, roundNearest, fpZero_eq]
  have hmb : (0 : ℝ) < mb := Nat.cast_pos.2 (Nat.pos_of_ne_zero hb)
  rw [signedReal_div_signedReal, divFinite]
  generalize hk : fmt.fracBits + 4 + Nat.log2 mb = k
  have hquot : 2 ^ (fmt.fracBits + 1) ≤ ma <<< k / mb := by
    rw [Nat.le_div_iff_mul_le (Nat.pos_of_ne_zero hb), Nat.shiftLeft_eq]
    calc 2 ^ (fmt.fracBits + 1) * mb ≤ 2 ^ (fmt.fracBits + 1) * 2 ^ (Nat.log2 mb + 1) :=
          Nat.mul_le_mul_left _ Nat.lt_log2_self.le
      _ = 2 ^ (fmt.fracBits + 1 + (Nat.log2 mb + 1)) := (Nat.pow_add ..).symm
      _ ≤ 2 ^ k := Nat.pow_le_pow_right two_pos (by omega)
      _ ≤ ma * 2 ^ k := Nat.le_mul_of_pos_left _ (Nat.pos_of_ne_zero ha)
  have hquot0 : ma <<< k / mb ≠ 0 := (Nat.two_pow_pos _ |>.trans_le hquot).ne'
  have hexact : (ma * 2 ^ ea / (mb * 2 ^ eb) : ℝ) =
      ((ma <<< k / mb : ℕ) + (ma <<< k % mb : ℕ) / mb) * 2 ^ (ea - eb - k) := by
    have hdm : (mb * (ma <<< k / mb : ℕ) + (ma <<< k % mb : ℕ) : ℝ) = ma * 2 ^ k := by
      exact_mod_cast (Nat.div_add_mod (ma <<< k) mb).trans (Nat.shiftLeft_eq ma k)
    rw [zpow_sub₀ two_ne_zero, zpow_sub₀ two_ne_zero, zpow_natCast]
    field_simp
    linear_combination -hdm
  rw [hexact]
  refine roundNearest_sticky_roundsTo hfmt hquot0 (by positivity) ?_ ?_ (fun _ => ?_) _
  · rw [div_lt_one hmb, Nat.cast_lt]
    exact Nat.mod_lt _ (Nat.pos_of_ne_zero hb)
  · simp [hmb.ne']
  · exact (Nat.le_log2 hquot0).2 hquot

variable {a b : Nat}

/-- A quotient of two numbers, the divisor not 0. -/
theorem fpDiv_roundsTo (hfmt : fmt.Proper) (ha : fmt.isFinite a) (hb : fmt.isFinite b) (hb0 : fmt.value b ≠ 0) :
    RoundsTo fmt (fmt.value a / fmt.value b) (fmt.signBit a ^^ fmt.signBit b) (fpDiv fmt a b) := by
  obtain ⟨ma, ea, hua, hva, -⟩ := exists_unpack_eq_finite ha
  obtain ⟨mb, eb, hub, hvb, -⟩ := exists_unpack_eq_finite hb
  have hmb : mb ≠ 0 := mt (significand_eq_zero_iff hvb).1 hb0
  rw [fpDiv, hua, hub, hva, hvb]
  simp only [if_neg hmb]
  exact divFinite_roundsTo hfmt hmb

/-- A number by 0. -/
theorem fpDiv_by_zero (ha : fmt.isFinite a) (hb : fmt.isFinite b) (ha0 : fmt.value a ≠ 0) (hb0 : fmt.value b = 0) :
    fpDiv fmt a b = .bits (fmt.infinity (fmt.signBit a ^^ fmt.signBit b)) := by
  obtain ⟨ma, ea, hua, hva, -⟩ := exists_unpack_eq_finite ha
  obtain ⟨mb, eb, hub, hvb, -⟩ := exists_unpack_eq_finite hb
  have hma : ma ≠ 0 := mt (significand_eq_zero_iff hva).1 ha0
  have hmb : mb = 0 := (significand_eq_zero_iff hvb).2 hb0
  rw [fpDiv, hua, hub]
  simp only [if_pos hmb, if_neg hma, fpInf_eq]

theorem fpDiv_infinity_finite (n : Bool) (hb : fmt.isFinite b) :
    fpDiv fmt (fmt.infinity n) b = .bits (fmt.infinity (n ^^ fmt.signBit b)) := by
  rw [fpDiv, unpack_infinity, unpack_of_isFinite hb, ← fpInf_eq]

theorem fpDiv_finite_infinity (n : Bool) (ha : fmt.isFinite a) :
    fpDiv fmt a (fmt.infinity n) = .bits (fmt.zero (fmt.signBit a ^^ n)) := by
  rw [fpDiv, unpack_infinity, unpack_of_isFinite ha, ← fpZero_eq]

/-! The pattern of 1, which RECIP divides. -/

theorem Format.oneBits_lt_signValue (hfmt : fmt.Proper) : fmt.oneBits < fmt.signValue :=
  (Format.oneBits_lt hfmt).trans fmt.infBits_lt

theorem Format.isFinite_oneBits (hfmt : fmt.Proper) : fmt.isFinite fmt.oneBits :=
  (isFinite_fpSigned_iff (neg := false) (Format.oneBits_lt_signValue hfmt)).2 (Format.oneBits_lt hfmt)

theorem Format.signBit_oneBits (hfmt : fmt.Proper) : fmt.signBit fmt.oneBits = false :=
  signBit_fpSigned (neg := false) (Format.oneBits_lt_signValue hfmt)

theorem Format.value_oneBits (hfmt : fmt.Proper) : fmt.value fmt.oneBits = 1 :=
  (value_fpSigned (neg := false) fmt (Format.oneBits_lt_signValue hfmt)).trans (Format.magnitudeValue_oneBits hfmt)

theorem fpRecip_isRounded (hfmt : fmt.Proper) (ha : fmt.isFinite a) (ha0 : fmt.value a ≠ 0) :
    ∃ p, fpRecip fmt a = .bits p ∧ IsRounded fmt (1 / fmt.value a) p := by
  have h := fpDiv_roundsTo hfmt (Format.isFinite_oneBits hfmt) ha ha0
  rw [Format.value_oneBits hfmt] at h
  exact h.1 (one_div_ne_zero ha0)

theorem fpRecip_of_zero (hfmt : fmt.Proper) (ha : fmt.isFinite a) (ha0 : fmt.value a = 0) :
    fpRecip fmt a = .bits (fmt.infinity (fmt.signBit a)) := by
  have hone : fmt.value fmt.oneBits ≠ 0 := by rw [Format.value_oneBits hfmt]; exact one_ne_zero
  rw [fpRecip, fpDiv_by_zero (Format.isFinite_oneBits hfmt) ha hone ha0, Format.signBit_oneBits hfmt, Bool.false_xor]

theorem fpRecip_infinity (hfmt : fmt.Proper) (n : Bool) : fpRecip fmt (fmt.infinity n) = .bits (fmt.zero n) := by
  rw [fpRecip, fpDiv_finite_infinity n (Format.isFinite_oneBits hfmt), Format.signBit_oneBits hfmt, Bool.false_xor]

end Division

/-! ### Square roots (R263, R264, R273, R274) -/

section SquareRoots

/-- The bits of the root below bit `b` are decided from the top. -/
theorem sqrtBits_spec {n b root : Nat} (hlow : root * root ≤ n) (hhigh : n < (root + 2 ^ b) * (root + 2 ^ b)) :
    sqrtBits n b root * sqrtBits n b root ≤ n ∧ n < (sqrtBits n b root + 1) * (sqrtBits n b root + 1) := by
  induction b generalizing root with
  | zero => exact ⟨hlow, hhigh⟩
  | succ b ih =>
    rw [sqrtBits]
    split
    case isTrue h =>
      refine ih h ?_
      rwa [Nat.add_assoc, ← Nat.two_mul, ← Nat.pow_succ']
    case isFalse h => exact ih hlow (Nat.lt_of_not_le h)

/-- `intSqrt` is the integer square root. -/
theorem intSqrt_spec (n : Nat) : intSqrt n * intSqrt n ≤ n ∧ n < (intSqrt n + 1) * (intSqrt n + 1) := by
  refine sqrtBits_spec (Nat.zero_le _) ?_
  rw [Nat.zero_add, ← Nat.pow_add]
  exact Nat.lt_log2_self.trans_le (Nat.pow_le_pow_right two_pos (by omega))

/-- The real root lies at the integer root or above it, by less than 1; the square says which. -/
theorem intSqrt_real (n : Nat) : (intSqrt n : ℝ) ≤ √n ∧ √n < intSqrt n + 1 ∧
    (intSqrt n * intSqrt n ≠ n ↔ √(n : ℝ) - intSqrt n ≠ 0) := by
  obtain ⟨hlow, hhigh⟩ := intSqrt_spec n
  refine ⟨?_, ?_, not_congr ?_⟩
  · refine Real.le_sqrt_of_sq_le ?_
    rw [pow_two]
    exact_mod_cast hlow
  · rw [Real.sqrt_lt' (by positivity), pow_two]
    exact_mod_cast hhigh
  · rw [sub_eq_zero, Real.sqrt_eq_iff_mul_self_eq (Nat.cast_nonneg _) (Nat.cast_nonneg _)]
    exact_mod_cast eq_comm

variable {fmt : Format} {a : Nat}

/-- The root of m * 2 ^ e, rounded once: the integer root of a long enough significand at an even exponent. -/
theorem roundNearest_intSqrt_isRounded (hfmt : fmt.Proper) {m k : Nat} {e j : ℤ} (hm : m ≠ 0) (hk : 2 * (fmt.fracBits + 3) ≤ k)
    (hj : e - k = 2 * j) :
    ∃ p, roundNearest fmt false (intSqrt (m <<< k)) j (decide (intSqrt (m <<< k) * intSqrt (m <<< k) ≠ m <<< k)) = .bits p ∧
      IsRounded fmt (√(m * 2 ^ e)) p := by
  have hexact : √((m : ℝ) * 2 ^ e) = √(m <<< k : ℕ) * 2 ^ j := by
    have hsplit : (m : ℝ) * 2 ^ e = (m <<< k : ℕ) * (2 ^ j * 2 ^ j) := by
      rw [← zpow_add₀ two_ne_zero, ← two_mul, ← hj, zpow_sub₀ two_ne_zero, zpow_natCast, Nat.shiftLeft_eq]
      push_cast
      field_simp
    rw [hsplit, Real.sqrt_mul (Nat.cast_nonneg _), Real.sqrt_mul_self (by positivity)]
  have hlong : 2 ^ (fmt.fracBits + 1) ≤ intSqrt (m <<< k) := by
    obtain ⟨-, hhigh⟩ := intSqrt_spec (m <<< k)
    have hn : 2 ^ (fmt.fracBits + 3) * 2 ^ (fmt.fracBits + 3) ≤ m <<< k := by
      rw [← Nat.pow_add, ← Nat.two_mul, Nat.shiftLeft_eq]
      exact (Nat.pow_le_pow_right two_pos hk).trans (Nat.le_mul_of_pos_left _ (Nat.pos_of_ne_zero hm))
    have hroot : 2 ^ (fmt.fracBits + 3) < intSqrt (m <<< k) + 1 := Nat.mul_self_lt_mul_self_iff.1 (hn.trans_lt hhigh)
    exact (Nat.pow_le_pow_right two_pos (by omega)).trans (Nat.lt_succ_iff.1 hroot)
  have hlong0 : intSqrt (m <<< k) ≠ 0 := (Nat.two_pow_pos _ |>.trans_le hlong).ne'
  obtain ⟨hlow, hhigh, hsticky⟩ := intSqrt_real (m <<< k)
  have hpos : 0 < √((m : ℝ) * 2 ^ e) := Real.sqrt_pos.2 (mul_pos (Nat.cast_pos.2 (Nat.pos_of_ne_zero hm)) (by positivity))
  have hrounds := roundNearest_sticky_roundsTo (neg := false) (e := j) hfmt hlong0 (sub_nonneg.2 hlow) (by linarith)
    (decide_eq_true_iff.trans hsticky) (fun _ => (Nat.le_log2 hlong0).2 hlong) false
  rw [add_sub_cancel, ← hexact, signedReal_false] at hrounds
  exact hrounds.1 hpos.ne'

/-- A positive number has a clear sign bit. -/
theorem Format.signBit_of_value_pos (h : 0 < fmt.value a) : fmt.signBit a = false := by
  by_contra hs
  rw [fmt.value_eq, Bool.eq_true_of_not_eq_false hs, signedReal_true] at h
  linarith [fmt.magnitudeValue_nonneg (fpMagnitude fmt a)]

/-- A negative number has its sign bit set. -/
theorem Format.signBit_of_value_neg (h : fmt.value a < 0) : fmt.signBit a = true := by
  by_contra hs
  rw [fmt.value_eq, Bool.eq_false_of_not_eq_true hs, signedReal_false] at h
  linarith [fmt.magnitudeValue_nonneg (fpMagnitude fmt a)]

theorem fpSqrt_isRounded (hfmt : fmt.Proper) (ha : fmt.isFinite a) (hpos : 0 < fmt.value a) :
    ∃ p, fpSqrt fmt a = .bits p ∧ IsRounded fmt (√(fmt.value a)) p := by
  obtain ⟨m, e, hu, hv, -⟩ := exists_unpack_eq_finite ha
  have hm : m ≠ 0 := mt (significand_eq_zero_iff hv).1 hpos.ne'
  rw [Format.signBit_of_value_pos hpos] at hu hv
  rw [fpSqrt, hu, hv]
  simp only [if_neg hm, Bool.false_eq_true, if_false]
  refine roundNearest_intSqrt_isRounded hfmt hm (Nat.le_add_right _ _) ?_
  push_cast
  omega

/-- The root of a zero is that zero. -/
theorem fpSqrt_of_zero (ha : fmt.isFinite a) (h0 : fmt.value a = 0) : fpSqrt fmt a = .bits a := by
  obtain ⟨m, e, hu, hv, -⟩ := exists_unpack_eq_finite ha
  obtain rfl : m = 0 := (significand_eq_zero_iff hv).2 h0
  have hself := fpSigned_signBit_magnitude (Format.isFinite_iff.1 ha).1
  rw [fmt.value_eq_zero_iff.1 h0] at hself
  rw [fpSqrt, hu]
  exact congrArg FpResult.bits hself

/-- The root of a negative number is invalid. -/
theorem fpSqrt_of_neg (ha : fmt.isFinite a) (hneg : fmt.value a < 0) : fpSqrt fmt a = .invalid := by
  obtain ⟨m, e, hu, hv, -⟩ := exists_unpack_eq_finite ha
  have hm : m ≠ 0 := mt (significand_eq_zero_iff hv).1 hneg.ne
  rw [Format.signBit_of_value_neg hneg] at hu
  rw [fpSqrt, hu]
  simp only [if_neg hm, if_true]

theorem fpSqrt_infinity (fmt : Format) (n : Bool) :
    fpSqrt fmt (fmt.infinity n) = if n then .invalid else .bits (fmt.infinity false) := by
  rw [fpSqrt, unpack_infinity, ← fpInf_eq]

/-! RSQRT goes on with the reciprocal of the rounded root. -/

theorem fpRsqrt_of_bits {t : Nat} (h : fpSqrt fmt a = .bits t) : fpRsqrt fmt a = fpRecip fmt t := by rw [fpRsqrt, h]
theorem fpRsqrt_of_invalid (h : fpSqrt fmt a = .invalid) : fpRsqrt fmt a = .invalid := by rw [fpRsqrt, h]
theorem fpRsqrt_of_anyNaN (h : fpSqrt fmt a = .anyNaN) : fpRsqrt fmt a = .anyNaN := by rw [fpRsqrt, h]

/-- A value between the smallest magnitude and the largest number is rounded to a number that is not 0. -/
theorem IsRounded.isFinite_ne_zero (hfmt : fmt.Proper) {v : ℝ} {p : Nat} (h : IsRounded fmt v p) (hlow : fmt.magnitudeValue 1 ≤ v)
    (hhigh : v < fmt.overflowBound) : fmt.isFinite p ∧ fmt.value p ≠ 0 := by
  have hmin : 0 < fmt.magnitudeValue 1 := fmt.magnitudeValue_zero ▸ fmt.magnitudeValue_strictMono one_pos
  have hv : 0 < v := hmin.trans_le hlow
  have hlt : 1 < fmt.infBits := (Nat.one_le_iff_ne_zero.2 (Format.oneBits_ne_zero hfmt)).trans_lt (Format.oneBits_lt hfmt)
  have hsign : 1 < fmt.signValue := hlt.trans fmt.infBits_lt
  obtain ⟨-, -, h⟩ := h
  rw [abs_of_pos hv, if_neg hhigh.not_ge] at h
  obtain ⟨hfinite, hnear⟩ := h
  refine ⟨hfinite, fun h0 => ?_⟩
  -- The smallest magnitude would be nearer than 0.
  obtain ⟨hle, -⟩ := hnear (fpSigned fmt false 1) ((isFinite_fpSigned_iff hsign).2 hlt)
  rw [h0, value_fpSigned fmt hsign, signedReal_false, zero_sub, abs_neg, abs_of_pos hv, abs_of_nonpos (sub_nonpos.2 hlow)] at hle
  linarith

/-- The rounded root of a positive number is a number that is not 0: the root lies between the number and 1. -/
theorem isFinite_of_sqrt_isRounded (hfmt : fmt.Proper) (ha : fmt.isFinite a) (hpos : 0 < fmt.value a) {t : Nat}
    (ht : IsRounded fmt (√(fmt.value a)) t) : fmt.isFinite t ∧ fmt.value t ≠ 0 := by
  have hvalue : fmt.value a = fmt.magnitudeValue (fpMagnitude fmt a) := by
    rw [← fmt.abs_value, abs_of_pos hpos]
  have hone := Format.magnitudeValue_oneBits hfmt
  have hmax : fmt.value a < fmt.overflowBound := hvalue ▸ magnitudeValue_lt_overflowBound hfmt ha.magnitude_lt
  have hmax1 : 1 < fmt.overflowBound := hone ▸ magnitudeValue_lt_overflowBound hfmt (Format.oneBits_lt hfmt)
  have hmin : fmt.magnitudeValue 1 ≤ fmt.value a :=
    hvalue ▸ Format.magnitudeValue_one_le (mt fmt.value_eq_zero_iff.2 hpos.ne')
  have hmin1 : fmt.magnitudeValue 1 ≤ 1 := hone ▸ Format.magnitudeValue_one_le (Format.oneBits_ne_zero hfmt)
  rcases le_total (fmt.value a) 1 with h | h
  · exact ht.isFinite_ne_zero hfmt (hmin.trans (Real.le_sqrt_of_sq_le (by nlinarith))) ((Real.sqrt_le_one.2 h).trans_lt hmax1)
  · exact ht.isFinite_ne_zero hfmt (hmin1.trans (Real.one_le_sqrt.2 h))
      (((Real.sqrt_le_left hpos.le).2 (by nlinarith)).trans_lt hmax)

end SquareRoots

/-- Settles O52: an integer quotient or root that is longer than the significand is rounded with the sticky bit of what is left; RSQRT
takes the reciprocal of the rounded root, which is a number and not 0. -/
theorem divSqrtRecipRoundOnce : Obligations.DivSqrtRecipRoundOnce := by
  intro fmt hmem a b x y inf zero sign
  have hfmt := Format.proper_of_mem hmem
  refine ⟨fun ha hb => ⟨fun hy hx => (fpDiv_roundsTo hfmt ha hb hy).1 (div_ne_zero hx hy), fun hy hx => ?_, fun hy hx => ?_⟩,
    fun n ha => ⟨fpDiv_infinity_finite n ha, fpDiv_finite_infinity n ha⟩,
    fun ha => ⟨fpSqrt_isRounded hfmt ha, fpRecip_isRounded hfmt ha, fun hpos => ?_, fun h0 => ?_⟩, ?_, ?_, fpRecip_infinity hfmt⟩
  · exact (fpDiv_roundsTo hfmt ha hb hy).2 (div_eq_zero_iff.2 (.inl hx))
  · exact fpDiv_by_zero ha hb hx hy
  · obtain ⟨t, ht, hroot⟩ := fpSqrt_isRounded hfmt ha hpos
    obtain ⟨htfin, ht0⟩ := isFinite_of_sqrt_isRounded hfmt ha hpos hroot
    obtain ⟨p, hp, hrounded⟩ := fpRecip_isRounded hfmt htfin ht0
    exact ⟨t, p, ht, (fpRsqrt_of_bits ht).trans hp, hrounded⟩
  · have hsqrt := fpSqrt_of_zero ha h0
    have hrecip := fpRecip_of_zero hfmt ha h0
    exact ⟨hsqrt, hrecip, (fpRsqrt_of_bits hsqrt).trans hrecip⟩
  · exact fpSqrt_infinity fmt false
  · exact (fpRsqrt_of_bits (fpSqrt_infinity fmt false)).trans (fpRecip_infinity hfmt false)

/-! ### Conversions to a format (R380 to R386) -/

section Conversions
variable {src dst fmt : Format} {a : Nat}

theorem fpConvert_roundsTo (hdst : dst.Proper) (ha : src.isFinite a) :
    RoundsTo dst (src.value a) (src.signBit a) (fpConvert src dst a) := by
  obtain ⟨m, e, hu, hv, -⟩ := exists_unpack_eq_finite ha
  rw [fpConvert, hu, hv]
  exact roundNearest_roundsTo hdst

/-- A wider format represents every number of a narrower one. -/
theorem fpConvert_exact (hsrc : src.Proper) (hdst : dst.Proper) (hfrac : src.fracBits ≤ dst.fracBits)
    (hmin : dst.minExp ≤ src.minExp) (hbias : src.bias ≤ dst.bias) (ha : src.isFinite a) :
    ∃ p, fpConvert src dst a = .bits p ∧ dst.isFinite p ∧ dst.value p = src.value a ∧ dst.signBit p = src.signBit a := by
  obtain ⟨m, e, hu, hv, hm, he⟩ := exists_unpack_eq_finite ha
  obtain ⟨k, hk⟩ := exists_magnitudeValue_eq (fmt := dst) (hm.trans_le (Nat.pow_le_pow_right two_pos (by omega))) (hmin.trans he)
  have hlt : k < dst.infBits := by
    rw [← dst.magnitudeValue_strictMono.lt_iff_lt, hk, ← abs_eq_of_eq_signedReal hv, src.abs_value]
    calc src.magnitudeValue (fpMagnitude src a) < src.magnitudeValue src.infBits :=
          src.magnitudeValue_strictMono ha.magnitude_lt
      _ = 2 ^ (src.bias + 1) := Format.magnitudeValue_infBits hsrc
      _ ≤ 2 ^ (dst.bias + 1) := pow_le_pow_right₀ one_le_two (by omega)
      _ = dst.magnitudeValue dst.infBits := (Format.magnitudeValue_infBits hdst).symm
  have hsign := hlt.trans dst.infBits_lt
  refine ⟨fpSigned dst (src.signBit a) k, ?_, (isFinite_fpSigned_iff hsign).2 hlt, ?_, signBit_fpSigned hsign⟩
  · rw [fpConvert, hu]
    exact roundNearest_of_representable hdst hk.symm hlt
  · rw [value_fpSigned dst hsign, hk, hv]

theorem fpConvert_infinity (src dst : Format) (n : Bool) :
    fpConvert src dst (src.infinity n) = .bits (dst.infinity n) := by
  rw [fpConvert, unpack_infinity, ← fpInf_eq]

theorem fpConvert_of_isNaN (h : fpIsNaN src a = true) : fpConvert src dst a = .anyNaN := by
  rw [fpConvert, unpack_of_isNaN h]

theorem fpOfInt_zero (fmt : Format) : fpOfInt fmt 0 = .bits (fmt.zero false) := fpZero_eq fmt false

theorem fpOfInt_roundsTo (hfmt : fmt.Proper) (n : ℤ) : RoundsTo fmt n (decide (n < 0)) (fpOfInt fmt n) := by
  have h := roundNearest_roundsTo (neg := decide (n < 0)) (m := n.natAbs) (e := 0) hfmt
  rwa [zpow_zero, mul_one, signedReal_natAbs] at h

end Conversions

/-- Settles O54: each conversion is one rounding of the exact value, and binary64 represents every number of binary32. -/
theorem conversionsRoundOnce : Obligations.ConversionsRoundOnce := by
  have hsingle : binary32.Proper := Format.proper_of_mem (by simp)
  have hdouble : binary64.Proper := Format.proper_of_mem (by simp)
  refine ⟨fun a ha => fpConvert_roundsTo hsingle ha,
    fun a ha => fpConvert_exact hsingle hdouble (by decide) (by decide) (by decide) ha,
    fun n => ⟨fpConvert_infinity _ _ n, fpConvert_infinity _ _ n⟩,
    fun a => ⟨fpConvert_of_isNaN, fpConvert_of_isNaN⟩, fun fmt hmem => ⟨fpOfInt_zero fmt, fun n hn => ?_⟩⟩
  exact (fpOfInt_roundsTo (Format.proper_of_mem hmem) n).1 (Int.cast_ne_zero.2 hn)

/-! ### The order of the patterns (R283, R287, R320) -/

/-- The real number of a key: the magnitude with the sign of the key. -/
noncomputable def Format.keyReal (fmt : Format) (k : ℤ) : ℝ := signedReal (decide (k < 0)) (fmt.magnitudeValue k.natAbs)

/-- The extended real number of a key, the keys of the infinities at the ends. -/
noncomputable def Format.keyValue (fmt : Format) (k : ℤ) : EReal :=
  if k = fmt.infBits then ⊤ else if k = -fmt.infBits then ⊥ else (fmt.keyReal k : EReal)

section Order
variable {fmt : Format}

theorem Format.keyReal_strictMono (fmt : Format) : StrictMono fmt.keyReal := by
  have hneg : ∀ k : ℤ, k < 0 → fmt.keyReal k = -fmt.magnitudeValue k.natAbs := fun k hk => by
    rw [Format.keyReal, decide_eq_true hk, signedReal_true]
  have hnonneg : ∀ k : ℤ, 0 ≤ k → fmt.keyReal k = fmt.magnitudeValue k.natAbs := fun k hk => by
    rw [Format.keyReal, decide_eq_false hk.not_gt, signedReal_false]
  intro j k hjk
  rcases lt_or_ge j 0 with hj | hj
  · rcases lt_or_ge k 0 with hk | hk
    · rw [hneg j hj, hneg k hk, neg_lt_neg_iff]
      exact fmt.magnitudeValue_strictMono (by omega)
    · have hpos : fmt.magnitudeValue 0 < fmt.magnitudeValue j.natAbs := fmt.magnitudeValue_strictMono (by omega)
      have := fmt.magnitudeValue_nonneg k.natAbs
      rw [fmt.magnitudeValue_zero] at hpos
      rw [hneg j hj, hnonneg k hk]
      linarith
  · rw [hnonneg j hj, hnonneg k (hj.trans hjk.le)]
    exact fmt.magnitudeValue_strictMono (by omega)

/-- The keys are ordered as their values. -/
theorem Format.keyValue_strictMonoOn (fmt : Format) :
    StrictMonoOn fmt.keyValue (Set.Icc (-fmt.infBits : ℤ) fmt.infBits) := by
  intro j hj k hk hjk
  have hjtop : j ≠ fmt.infBits := (hjk.trans_le hk.2).ne
  have hkbot : k ≠ -fmt.infBits := (hj.1.trans_lt hjk).ne'
  rw [Format.keyValue, Format.keyValue, if_neg hjtop, if_neg hkbot]
  by_cases hjbot : j = -fmt.infBits <;> by_cases hktop : k = fmt.infBits
  · rw [if_pos hjbot, if_pos hktop]
    exact bot_lt_top
  · rw [if_pos hjbot, if_neg hktop]
    exact EReal.bot_lt_coe _
  · rw [if_neg hjbot, if_pos hktop]
    exact EReal.coe_lt_top _
  · rw [if_neg hjbot, if_neg hktop, EReal.coe_lt_coe_iff]
    exact fmt.keyReal_strictMono hjk

theorem natAbs_fpKey (fmt : Format) (p : Nat) : (fpKey fmt p).natAbs = fpMagnitude fmt p := by
  rw [fpKey, signedInt]
  split <;> simp

/-- The key of a number stands for its value. -/
theorem keyReal_fpKey (fmt : Format) (p : Nat) : fmt.keyReal (fpKey fmt p) = fmt.value p := by
  rw [Format.keyReal, natAbs_fpKey, fmt.value_eq, fpKey, fpNeg_eq_signBit]
  rcases Nat.eq_zero_or_pos (fpMagnitude fmt p) with h | h
  · rw [h, fmt.magnitudeValue_zero, signedReal_zero, signedReal_zero]
  · congr 1
    cases fmt.signBit p
    · simp [signedInt]
    · simpa [signedInt] using h

theorem fpKey_infinity (fmt : Format) (n : Bool) : fpKey fmt (fmt.infinity n) = signedInt n fmt.infBits := by
  rw [fpKey, fpNeg_eq_signBit, signBit_infinity, fpMagnitude_infinity]

/-- The key of a pattern that is not a NaN lies between those of the infinities. -/
theorem fpKey_mem {p : Nat} (h : fpIsNaN fmt p = false) : fpKey fmt p ∈ Set.Icc (-fmt.infBits : ℤ) fmt.infBits := by
  have := (fpIsNaN_eq_false_iff fmt p).1 h
  have := natAbs_fpKey fmt p
  constructor <;> omega

/-- The extended real number of a pattern, as the statement writes it, is that of its key. -/
theorem keyValue_fpKey (hfmt : fmt.Proper) {p : Nat} (hp : p < 2 ^ fmt.width) (h : fpIsNaN fmt p = false) :
    (if p = fmt.infinity false then (⊤ : EReal) else if p = fmt.infinity true then ⊥ else (fmt.value p : EReal)) =
      fmt.keyValue (fpKey fmt p) := by
  have hpos := Format.infBits_pos hfmt
  have hne : fmt.infinity true ≠ fmt.infinity false := fun he => by
    have := congrArg fmt.signBit he
    simp at this
  rcases Format.pattern_cases hp with hnan | hinf | hfin
  · rw [h] at hnan
    cases hnan
  · rw [hinf, fpKey_infinity]
    cases fmt.signBit p
    · simp [Format.keyValue, signedInt]
    · have : -(fmt.infBits : ℤ) ≠ fmt.infBits := by omega
      simp [Format.keyValue, signedInt, hne, this]
  · have hmag := hfin.magnitude_lt
    have hkey := natAbs_fpKey fmt p
    have hinf : ∀ n, p ≠ fmt.infinity n := fun n he => by
      rw [he, fpMagnitude_infinity] at hmag
      exact hmag.false
    rw [Format.keyValue, if_neg (hinf _), if_neg (hinf _), if_neg (by omega), if_neg (by omega), keyReal_fpKey]

variable {a b : Nat}

theorem fpEqual_iff (h : (fpIsNaN fmt a || fpIsNaN fmt b) = false) : fpEqual fmt a b = true ↔ fpKey fmt a = fpKey fmt b := by
  simp [fpEqual, fpUnordered, h]

theorem fpLess_iff (h : (fpIsNaN fmt a || fpIsNaN fmt b) = false) : fpLess fmt a b = true ↔ fpKey fmt a < fpKey fmt b := by
  simp [fpLess, fpUnordered, h]

theorem fpRelations_of_unordered (h : (fpIsNaN fmt a || fpIsNaN fmt b) = true) :
    fpEqual fmt a b = false ∧ fpLess fmt a b = false := by
  simp [fpEqual, fpLess, fpUnordered, h]

theorem fpNumberOf_of_numbers (ha : fpIsNaN fmt a = false) (hb : fpIsNaN fmt b = false) (pick : Nat) :
    fpNumberOf fmt a b pick = .bits pick := by
  simp [fpNumberOf, ha, hb]

/-- MIN and MAX of two operands whose keys differ. -/
theorem fpMin_fpMax_of_key_lt (ha : fpIsNaN fmt a = false) (hb : fpIsNaN fmt b = false) (h : fpKey fmt a < fpKey fmt b) :
    fpMin fmt a b = .bits a ∧ fpMin fmt b a = .bits a ∧ fpMax fmt a b = .bits b ∧ fpMax fmt b a = .bits b := by
  have hab : fpOrdered fmt a b = true := by simp [fpOrdered, h]
  have hba : fpOrdered fmt b a = false := by simp [fpOrdered, h.le, h.ne']
  simp [fpMin, fpMax, fpNumberOf_of_numbers, ha, hb, fpSmaller, fpLarger, hab, hba]

/-- A pattern is a NaN exactly if its exponent field is all ones and its fraction field is not 0. -/
theorem fpIsNaN_iff_fields (ha : a < 2 ^ fmt.width) :
    fpIsNaN fmt a = true ↔ ¬ fmt.isFinite a ∧ a % 2 ^ fmt.fracBits ≠ 0 := by
  have hF := Nat.two_pow_pos fmt.fracBits
  have hmod : ∀ n, n < 2 ^ fmt.fracBits → (fmt.infBits + n) % 2 ^ fmt.fracBits = n := fun n hn => by
    rw [Format.infBits, Nat.mul_add_mod_self_right, Nat.mod_eq_of_lt hn]
  have hlt : fpMagnitude fmt a < fmt.infBits + 2 ^ fmt.fracBits := by
    have := fpMagnitude_lt fmt a
    rwa [fmt.signValue_eq, ← Nat.sub_add_cancel (Nat.two_pow_pos fmt.expBits), Nat.succ_mul] at this
  rw [fpIsNaN_iff, Format.isFinite_iff, and_iff_right ha, ← fpMagnitude_mod, Nat.not_lt]
  constructor
  · intro h
    refine ⟨h.le, ?_⟩
    rw [← Nat.add_sub_cancel' h.le, hmod _ (by omega)]
    omega
  · rintro ⟨hle, hne⟩
    rw [← Nat.add_sub_cancel' hle, hmod _ (by omega)] at hne
    omega

end Order

/-- Settles O56: the keys of the patterns are ordered as their extended real values. -/
theorem comparisonsFollowTheValues : Obligations.ComparisonsFollowTheValues := by
  intro fmt hmem a b ha hb inf ext
  have hfmt := Format.proper_of_mem hmem
  have hext : ∀ p, p < 2 ^ fmt.width → fpIsNaN fmt p = false → ext p = fmt.keyValue (fpKey fmt p) := fun p hp hnan => by
    rw [← keyValue_fpKey hfmt hp hnan]
    simp [ext, inf, Format.infinity]
  refine ⟨fpIsNaN_iff_fields ha, fpRelations_of_unordered, fun h => ?_⟩
  obtain ⟨hna, hnb⟩ := Bool.or_eq_false_iff.1 h
  have hlt := fmt.keyValue_strictMonoOn.lt_iff_lt (fpKey_mem hna) (fpKey_mem hnb)
  have heq := fmt.keyValue_strictMonoOn.injOn.eq_iff (fpKey_mem hna) (fpKey_mem hnb)
  rw [hext a ha hna, hext b hb hnb, fpEqual_iff h, fpLess_iff h, hlt, heq]
  exact ⟨Iff.rfl, Iff.rfl, fpMin_fpMax_of_key_lt hna hnb⟩

/-! ### Integral values and selections by magnitude (R279 to R290) -/

section Rint
variable {fmt : Format} {a b : Nat}

/-- A number rounded to an integer is a number of the format: it is the number itself if its last place is an integer's, and short
otherwise. -/
theorem exists_magnitudeValue_roundAt (hfmt : fmt.Proper) (hbias : fmt.fracBits ≤ fmt.bias) {neg : Bool} {m : Nat} {e : ℤ}
    (hm : m < 2 ^ (fmt.fracBits + 1)) (he : fmt.minExp ≤ e) (hlt : (m : ℝ) * 2 ^ e < 2 ^ (fmt.bias + 1)) :
    ∃ k, k < fmt.infBits ∧ fmt.magnitudeValue k = roundAt .nearestEven neg m e 0 false := by
  suffices h : ∃ k, fmt.magnitudeValue k = roundAt .nearestEven neg m e 0 false ∧ fmt.magnitudeValue k < 2 ^ (fmt.bias + 1) by
    obtain ⟨k, hk, hklt⟩ := h
    rw [← Format.magnitudeValue_infBits hfmt] at hklt
    exact ⟨k, fmt.magnitudeValue_strictMono.lt_iff_lt.1 hklt, hk⟩
  rcases le_or_gt 0 e with h0 | h0
  · have hexact : ((roundAt .nearestEven neg m e 0 false : ℕ) : ℝ) = m * 2 ^ e := by
      have := shiftLeft_mul_zpow m h0
      rwa [zpow_zero, mul_one, ← show roundAt .nearestEven neg m e 0 false = m <<< (e - 0).toNat from if_pos h0] at this
    obtain ⟨k, hk⟩ := exists_magnitudeValue_eq hm he
    exact ⟨k, by rw [hk, hexact], by rwa [hk]⟩
  · have hshort : roundAt .nearestEven neg m e 0 false ≤ 2 ^ fmt.fracBits := by
      have hm' : (m : ℝ) < 2 ^ (fmt.fracBits + 1) := by exact_mod_cast hm
      have hhalf : (2 : ℝ) ^ e ≤ 2⁻¹ := by
        rw [← zpow_neg_one]
        exact zpow_le_zpow_right₀ one_le_two (by omega)
      have hw : (m : ℝ) * 2 ^ e < 2 ^ fmt.fracBits := by
        calc (m : ℝ) * 2 ^ e ≤ m * 2⁻¹ := by gcongr
          _ < 2 ^ (fmt.fracBits + 1) * 2⁻¹ := by gcongr
          _ = 2 ^ fmt.fracBits := by rw [pow_succ]; field_simp
      have := (abs_le.1 (nearestEven_roundAt_zero neg m e).1).1
      rw [Int.cast_natCast] at this
      refine Nat.lt_succ_iff.1 ?_
      rw [← @Nat.cast_lt ℝ]
      push_cast
      linarith
    have hmin : fmt.minExp ≤ 0 := he.trans h0.le
    obtain ⟨k, hk⟩ := exists_magnitudeValue_eq (fmt := fmt) (hshort.trans_lt (Nat.pow_lt_pow_right one_lt_two (Nat.lt_succ_self _)))
      hmin
    rw [zpow_zero, mul_one] at hk
    refine ⟨k, hk, ?_⟩
    rw [hk]
    calc ((roundAt .nearestEven neg m e 0 false : ℕ) : ℝ) ≤ (2 ^ fmt.fracBits : ℕ) := Nat.cast_le.2 hshort
      _ = 2 ^ fmt.fracBits := by push_cast; rfl
      _ < 2 ^ (fmt.bias + 1) := pow_lt_pow_right₀ one_lt_two (by omega)

/-- RINT of a number. -/
theorem fpRint_spec (hfmt : fmt.Proper) (hbias : fmt.fracBits ≤ fmt.bias) (ha : fmt.isFinite a) :
    ∃ p, fpRint fmt a = .bits p ∧ fmt.isFinite p ∧ fmt.signBit p = fmt.signBit a ∧
      ∃ n : ℤ, fmt.value p = n ∧ NearestEven (fmt.value a) n := by
  obtain ⟨m, e, hu, hv, hm, he⟩ := exists_unpack_eq_finite ha
  have hlt : (m : ℝ) * 2 ^ e < 2 ^ (fmt.bias + 1) := by
    rw [← abs_eq_of_eq_signedReal hv, fmt.abs_value, ← Format.magnitudeValue_infBits hfmt]
    exact fmt.magnitudeValue_strictMono ha.magnitude_lt
  obtain ⟨k, hk, hkv⟩ := exists_magnitudeValue_roundAt (neg := fmt.signBit a) hfmt hbias hm he hlt
  have hsign := hk.trans fmt.infBits_lt
  refine ⟨fpSigned fmt (fmt.signBit a) k, ?_, (isFinite_fpSigned_iff hsign).2 hk, signBit_fpSigned hsign, _, ?_,
    hv ▸ (nearestEven_roundAt_zero (fmt.signBit a) m e).signed (fmt.signBit a)⟩
  · rw [fpRint, hu]
    exact roundNearest_of_representable hfmt (by rw [hkv, zpow_zero, mul_one]) hk
  · rw [value_fpSigned fmt hsign, hkv, cast_signedInt]

theorem fpRint_infinity (fmt : Format) (n : Bool) : fpRint fmt (fmt.infinity n) = .bits (fmt.infinity n) := by
  rw [fpRint, unpack_infinity, ← fpInf_eq]

/-- MINA and MAXA of two operands of different magnitude. -/
theorem fpMina_fpMaxa_of_magnitude_lt (ha : fpIsNaN fmt a = false) (hb : fpIsNaN fmt b = false)
    (h : fpMagnitude fmt a < fpMagnitude fmt b) :
    fpMina fmt a b = .bits a ∧ fpMina fmt b a = .bits a ∧ fpMaxa fmt a b = .bits b ∧ fpMaxa fmt b a = .bits b := by
  simp [fpMina, fpMaxa, fpNumberOf_of_numbers, ha, hb, h, h.not_gt]

/-- MINA and MAXA of two operands of the same magnitude are MIN and MAX. -/
theorem fpMina_fpMaxa_of_magnitude_eq (h : fpMagnitude fmt a = fpMagnitude fmt b) :
    fpMina fmt a b = fpMin fmt a b ∧ fpMaxa fmt a b = fpMax fmt a b := by
  simp [fpMina, fpMaxa, fpMin, fpMax, h]

/-- The magnitudes of two numbers are ordered as their patterns. -/
theorem abs_value_lt_iff (fmt : Format) (a b : Nat) :
    |fmt.value a| < |fmt.value b| ↔ fpMagnitude fmt a < fpMagnitude fmt b := by
  rw [fmt.abs_value, fmt.abs_value, fmt.magnitudeValue_strictMono.lt_iff_lt]

theorem abs_value_eq_iff (fmt : Format) (a b : Nat) :
    |fmt.value a| = |fmt.value b| ↔ fpMagnitude fmt a = fpMagnitude fmt b := by
  rw [fmt.abs_value, fmt.abs_value, fmt.magnitudeValue_strictMono.injective.eq_iff]

/-- -0 is below +0 for MIN and MAX. -/
theorem fpMin_fpMax_zeros (hfmt : fmt.Proper) (n : Bool) :
    fpMin fmt (fmt.zero n) (fmt.zero (!n)) = .bits (fmt.zero true) ∧
    fpMax fmt (fmt.zero n) (fmt.zero (!n)) = .bits (fmt.zero false) := by
  have hnan : ∀ s, fpIsNaN fmt (fmt.zero s) = false := fun s => (Format.isFinite_zero hfmt s).isNaN_eq_false
  cases n <;>
    simp [fpMin, fpMax, fpNumberOf_of_numbers, hnan, fpSmaller, fpLarger, fpOrdered, fpKey, fpNeg_eq_signBit, signedInt]

end Rint

/-- Settles O57: an integer nearest to a number is a number of the format; magnitudes are ordered as the patterns without their sign. -/
theorem rintAndMagnitudeSelections : Obligations.RintAndMagnitudeSelections := by
  intro fmt hmem a b ha x y inf negative
  have hfmt := Format.proper_of_mem hmem
  have hbias : fmt.fracBits ≤ fmt.bias := by
    fin_cases hmem
    · decide
    · decide
  have hinf : ∀ i ∈ [inf, negative + inf], ∃ n, i = fmt.infinity n := by
    simp only [List.mem_cons, List.not_mem_nil, or_false]
    rintro i (rfl | rfl)
    · exact ⟨false, by simp [inf, Format.infinity]⟩
    · exact ⟨true, rfl⟩
  have hna := ha.isNaN_eq_false
  refine ⟨fpRint_spec hfmt hbias ha, ?_, ?_, fun hb hlt => ?_, fun _ heq => ?_, fun i hi => ?_, ?_⟩
  · obtain ⟨n, hn⟩ := hinf inf (by simp)
    rw [hn, fpRint_infinity]
  · exact fpRint_infinity fmt true
  · exact fpMina_fpMaxa_of_magnitude_lt hna hb.isNaN_eq_false ((abs_value_lt_iff fmt a b).1 hlt)
  · exact fpMina_fpMaxa_of_magnitude_eq ((abs_value_eq_iff fmt a b).1 heq)
  · obtain ⟨n, rfl⟩ := hinf i hi
    refine fpMina_fpMaxa_of_magnitude_lt hna (fpIsNaN_infinity fmt n) ?_
    rw [fpMagnitude_infinity]
    exact ha.magnitude_lt
  · have hplus := fpMin_fpMax_zeros hfmt false
    have hminus := fpMin_fpMax_zeros hfmt true
    exact ⟨hplus.1, hminus.1, hplus.2, hminus.2⟩

/-! ### NaNs and invalid operations (R252, U5) -/

section NaNs
variable {fmt : Format} {a b c : Nat}

theorem addValues_nan_right (fmt : Format) (x : FpValue) : addValues fmt x .nan = .anyNaN := by cases x <;> rfl

theorem fusedValues_nan_right (fmt : Format) (c x : FpValue) : fusedValues fmt c x .nan = .anyNaN := by cases x <;> rfl

/-- A NaN operand of a two-operand operation, or a NaN factor of a fused one. -/
theorem arithmetic_of_isNaN (h : fpIsNaN fmt a = true ∨ fpIsNaN fmt b = true) (c : Nat) :
    fpAdd fmt a b = .anyNaN ∧ fpSub fmt a b = .anyNaN ∧ fpMul fmt a b = .anyNaN ∧ fpDiv fmt a b = .anyNaN ∧
      fpMaddf fmt c a b = .anyNaN ∧ fpMsubf fmt c a b = .anyNaN := by
  unfold fpAdd fpSub fpMul fpDiv fpMaddf fpMsubf
  rcases h with h | h
  · rw [unpack_of_isNaN h]
    exact ⟨rfl, rfl, rfl, rfl, rfl, ite_self _⟩
  · rw [unpack_of_isNaN h]
    refine ⟨addValues_nan_right _ _, addValues_nan_right _ _, ?_, ?_, fusedValues_nan_right _ _ _, ?_⟩
    · cases unpack fmt a <;> rfl
    · cases unpack fmt a <;> rfl
    · rw [fusedValues_nan_right, ite_self]

/-- A NaN operand of a one-operand operation. -/
theorem unary_of_isNaN (h : fpIsNaN fmt a = true) :
    fpSqrt fmt a = .anyNaN ∧ fpRecip fmt a = .anyNaN ∧ fpRsqrt fmt a = .anyNaN ∧ fpRint fmt a = .anyNaN := by
  have hsqrt : fpSqrt fmt a = .anyNaN := by rw [fpSqrt, unpack_of_isNaN h]
  obtain ⟨-, -, -, hdiv, -, -⟩ := arithmetic_of_isNaN (a := fmt.oneBits) (.inr h) 0
  exact ⟨hsqrt, hdiv, fpRsqrt_of_anyNaN hsqrt, by rw [fpRint, unpack_of_isNaN h]⟩

theorem fpMsubf_of_isNaN_minuend (h : fpIsNaN fmt c = true) (a b : Nat) : fpMsubf fmt c a b = .anyNaN := if_pos h

/-- A NaN addend of MADDF, where the product is not infinity times 0. -/
theorem fpMaddf_of_isNaN_addend (h : fpIsNaN fmt c = true)
    (hab : fmt.isFinite a ∧ fmt.isFinite b ∨ fmt.InfiniteProduct a b) : fpMaddf fmt c a b = .anyNaN := by
  rcases hab with ⟨ha, hb⟩ | hab
  · obtain ⟨z, -, hz⟩ :=
      exists_fusedValues_eq_addValues fmt (unpack fmt c) (exists_unpack_finite ha) (exists_unpack_finite hb)
    rw [fpMaddf, hz, unpack_of_isNaN h]
    rfl
  · rw [fpMaddf_of_infiniteProduct hab, unpack_of_isNaN h]
    rfl

/-- MIN, MAX, MINA and MAXA treat NaNs alike. -/
theorem exists_eq_fpNumberOf {op : Format → Nat → Nat → FpResult} (h : op ∈ [fpMin, fpMax, fpMina, fpMaxa]) (fmt : Format)
    (a b : Nat) : ∃ pick, op fmt a b = fpNumberOf fmt a b pick := by
  fin_cases h <;> exact ⟨_, rfl⟩

/-! Infinity times 0, in either order. -/

theorem fpMul_infinity_zero (hfmt : fmt.Proper) (m n : Bool) :
    fpMul fmt (fmt.infinity m) (fmt.zero n) = .invalid ∧ fpMul fmt (fmt.zero n) (fmt.infinity m) = .invalid := by
  simp only [fpMul, unpack_infinity, unpack_zero hfmt, if_true, and_self]

theorem fusedValues_infinity_zero (fmt : Format) (c : FpValue) (m n : Bool) (e : ℤ) :
    fusedValues fmt c (.inf m) (.finite n 0 e) = .invalid ∧ fusedValues fmt c (.finite n 0 e) (.inf m) = .invalid := ⟨rfl, rfl⟩

theorem fpMaddf_infinity_zero (hfmt : fmt.Proper) (c : Nat) (m n : Bool) :
    fpMaddf fmt c (fmt.infinity m) (fmt.zero n) = .invalid ∧ fpMaddf fmt c (fmt.zero n) (fmt.infinity m) = .invalid := by
  simp only [fpMaddf, unpack_infinity, unpack_zero hfmt]
  exact fusedValues_infinity_zero ..

theorem fpMsubf_infinity_zero (hfmt : fmt.Proper) (hc : fpIsNaN fmt c = false) (m n : Bool) :
    fpMsubf fmt c (fmt.infinity m) (fmt.zero n) = .invalid ∧ fpMsubf fmt c (fmt.zero n) (fmt.infinity m) = .invalid := by
  rw [fpMsubf_of_not_isNaN hc, fpMsubf_of_not_isNaN hc, unpack_infinity, unpack_zero hfmt]
  exact ⟨(fusedValues_infinity_zero fmt _ (!m) n _).1, (fusedValues_infinity_zero fmt _ m (!n) _).2⟩

/-- An infinity by an infinity and 0 by 0. -/
theorem fpDiv_invalid (hfmt : fmt.Proper) (m n : Bool) :
    fpDiv fmt (fmt.infinity m) (fmt.infinity n) = .invalid ∧ fpDiv fmt (fmt.zero m) (fmt.zero n) = .invalid := by
  simp only [fpDiv, unpack_infinity, unpack_zero hfmt, if_true, and_self]

end NaNs

/-- Settles O58: a NaN is read as a NaN and an invalid pair of values falls into the branch of its operation. -/
theorem naNsAndInvalidOperations : Obligations.NaNsAndInvalidOperations := by
  intro fmt hmem a b c isZero isInf sign
  have hfmt := Format.proper_of_mem hmem
  refine ⟨fun h => arithmetic_of_isNaN h c, unary_of_isNaN,
    fun h => ⟨fpMsubf_of_isNaN_minuend h a b, fpMaddf_of_isNaN_addend h⟩, fun ha hb op hop => ?oneNaN,
    fun ha hb op hop => ?twoNaNs, fun n => ?opposite, ?infinityTimesZero, ?quotient, fun h => ?product, fun ha hneg => ?negative,
    fpSqrt_infinity fmt true, fpRsqrt_of_invalid (fpSqrt_infinity fmt true)⟩
  case oneNaN =>
    obtain ⟨pick, hab⟩ := exists_eq_fpNumberOf hop fmt a b
    obtain ⟨pick', hba⟩ := exists_eq_fpNumberOf hop fmt b a
    rw [hab, hba]
    simp [fpNumberOf, ha, hb]
  case twoNaNs =>
    obtain ⟨pick, hab⟩ := exists_eq_fpNumberOf hop fmt a b
    rw [hab]
    simp [fpNumberOf, ha, hb]
  case opposite =>
    simp only [fpAdd, fpSub, unpack_infinity]
    exact ⟨addValues_inf_not n, addValues_inf_not n⟩
  case infinityTimesZero =>
    rintro (⟨⟨m, rfl⟩, ⟨n, rfl⟩⟩ | ⟨⟨n, rfl⟩, ⟨m, rfl⟩⟩)
    · exact ⟨(fpMul_infinity_zero hfmt m n).1, (fpMaddf_infinity_zero hfmt c m n).1,
        fun hc => (fpMsubf_infinity_zero hfmt hc m n).1⟩
    · exact ⟨(fpMul_infinity_zero hfmt m n).2, (fpMaddf_infinity_zero hfmt c m n).2,
        fun hc => (fpMsubf_infinity_zero hfmt hc m n).2⟩
  case quotient =>
    rintro (⟨⟨m, rfl⟩, ⟨n, rfl⟩⟩ | ⟨⟨m, rfl⟩, ⟨n, rfl⟩⟩)
    · exact (fpDiv_invalid hfmt m n).1
    · exact (fpDiv_invalid hfmt m n).2
  case product =>
    have hnot := addValues_inf_not (fmt := fmt) (!sign)
    rw [Bool.not_not] at hnot
    rw [fpMaddf_of_infiniteProduct h, fpMsubf_of_infiniteProduct h (fpIsNaN_infinity fmt _), unpack_infinity, unpack_infinity]
    exact ⟨hnot, addValues_inf_not sign⟩
  case negative =>
    have hsqrt := fpSqrt_of_neg ha hneg
    exact ⟨hsqrt, fpRsqrt_of_invalid hsqrt⟩

/-! ### Results fit their format (R250)

A result is written as the number that its pattern is; the pattern of every result is below 2 ^ width. -/

/-- A result that is a pattern is a pattern of the format. -/
def FpResult.Fits (fmt : Format) : FpResult → Prop
  | .bits p => p < 2 ^ fmt.width
  | .invalid => True
  | .anyNaN => True

section Fits
variable {fmt : Format} {a b : Nat}

theorem fits_ite {c : Prop} [Decidable c] {r r' : FpResult} (h : r.Fits fmt) (h' : r'.Fits fmt) :
    (if c then r else r').Fits fmt := by
  split
  · exact h
  · exact h'

theorem fits_fpZero (fmt : Format) (neg : Bool) : (fpZero fmt neg).Fits fmt := fpSigned_lt fmt.signValue_pos

theorem fits_fpInf (fmt : Format) (neg : Bool) : (fpInf fmt neg).Fits fmt := fpSigned_lt fmt.infBits_lt

theorem fits_roundNearest (fmt : Format) (neg : Bool) (m : Nat) (e : ℤ) (sticky : Bool) :
    (roundNearest fmt neg m e sticky).Fits fmt :=
  fits_ite (fits_fpZero fmt neg) (fpSigned_lt (Nat.min_le_right _ _ |>.trans_lt fmt.infBits_lt))

theorem fits_addValues (fmt : Format) (x y : FpValue) : (addValues fmt x y).Fits fmt := by
  cases x <;> cases y
  case inf.inf m n => exact fits_ite (fits_fpInf fmt m) trivial
  case inf.finite m _ _ _ => exact fits_fpInf fmt m
  case finite.inf n => exact fits_fpInf fmt n
  case finite.finite => exact fits_ite (fits_fpZero fmt _) (fits_roundNearest fmt ..)
  all_goals trivial

theorem fits_fusedValues (fmt : Format) (c x y : FpValue) : (fusedValues fmt c x y).Fits fmt := by
  cases x <;> cases y
  case inf.inf => exact fits_addValues fmt ..
  case inf.finite => exact fits_ite trivial (fits_addValues fmt ..)
  case finite.inf => exact fits_ite trivial (fits_addValues fmt ..)
  case finite.finite => exact fits_addValues fmt ..
  all_goals trivial

theorem fits_fpMul (fmt : Format) (a b : Nat) : (fpMul fmt a b).Fits fmt := by
  unfold fpMul
  cases unpack fmt a <;> cases unpack fmt b
  case inf.inf => exact fits_fpInf fmt _
  case inf.finite => exact fits_ite trivial (fits_fpInf fmt _)
  case finite.inf => exact fits_ite trivial (fits_fpInf fmt _)
  case finite.finite => exact fits_roundNearest fmt ..
  all_goals trivial

theorem fits_fpDiv (fmt : Format) (a b : Nat) : (fpDiv fmt a b).Fits fmt := by
  unfold fpDiv
  cases unpack fmt a <;> cases unpack fmt b
  case inf.finite => exact fits_fpInf fmt _
  case finite.inf => exact fits_fpZero fmt _
  case finite.finite => exact fits_ite (fits_ite trivial (fits_fpInf fmt _)) (fits_roundNearest fmt ..)
  all_goals trivial

theorem fits_fpSqrt (fmt : Format) (a : Nat) : (fpSqrt fmt a).Fits fmt := by
  unfold fpSqrt
  cases unpack fmt a with
  | nan => trivial
  | inf neg => exact fits_ite trivial (fits_fpInf fmt _)
  | finite neg m e => exact fits_ite (fits_fpZero fmt _) (fits_ite trivial (fits_roundNearest fmt ..))

theorem fits_fpRsqrt (fmt : Format) (a : Nat) : (fpRsqrt fmt a).Fits fmt := by
  unfold fpRsqrt
  cases fpSqrt fmt a with
  | bits t => exact fits_fpDiv fmt ..
  | invalid => trivial
  | anyNaN => trivial

theorem fits_fpMsubf (fmt : Format) (c a b : Nat) : (fpMsubf fmt c a b).Fits fmt :=
  fits_ite trivial (fits_fusedValues fmt ..)

theorem fits_fpRint (fmt : Format) (a : Nat) : (fpRint fmt a).Fits fmt := by
  unfold fpRint
  cases unpack fmt a with
  | nan => trivial
  | inf neg => exact fits_fpInf fmt _
  | finite neg m e => exact fits_roundNearest fmt ..

section Selections
variable (ha : a < 2 ^ fmt.width) (hb : b < 2 ^ fmt.width)
include ha hb

/-- A selection answers one of its operands. -/
theorem fits_fpNumberOf {pick : Nat} (hpick : pick = a ∨ pick = b) : (fpNumberOf fmt a b pick).Fits fmt := by
  have hfit : pick < 2 ^ fmt.width := by rcases hpick with rfl | rfl <;> assumption
  exact fits_ite trivial (fits_ite hb (fits_ite ha hfit))

theorem fits_fpMin : (fpMin fmt a b).Fits fmt := fits_fpNumberOf ha hb (ite_eq_or_eq _ _ _)

theorem fits_fpMax : (fpMax fmt a b).Fits fmt := fits_fpNumberOf ha hb (ite_eq_or_eq _ _ _).symm

theorem fits_fpMina : (fpMina fmt a b).Fits fmt := by
  refine fits_fpNumberOf ha hb ?_
  split
  · exact .inl rfl
  · split
    · exact .inr rfl
    · exact ite_eq_or_eq _ _ _

theorem fits_fpMaxa : (fpMaxa fmt a b).Fits fmt := by
  refine fits_fpNumberOf ha hb ?_
  split
  · exact .inl rfl
  · split
    · exact .inr rfl
    · exact (ite_eq_or_eq _ _ _).symm

end Selections
end Fits

/-! ### Writing a floating-point result (R250, R252) -/

section Results
variable {s : State} {i : Instr} {fd : Reg} {r : FpResult} {even : Bool}

/-- An instruction that writes a word to an FPU register. -/
theorem completes_setF {v : Word} {P : Word → Prop} (he : exec i s = .next (s.setF fd v)) (hv : P v) :
    Completes i s [.f fd] fun t => P (t.getF fd) :=
  ⟨_, he, by beta_reduce; rwa [State.getF_setF_same], onlyChanges_setF s fd v⟩

/-- An instruction that writes a doubleword to an even pair. -/
theorem completes_setD {v : DWord} {P : DWord → Prop} (he : exec i s = onPairs even (.next (s.setD fd v)))
    (heven : even = true) (hv : P v) :
    Completes i s [.f fd, .f (fd + 1)] fun t => P (t.getF (fd + 1) ++ t.getF fd) := by
  have hread : (s.setD fd v).getF (fd + 1) ++ (s.setD fd v).getF fd = v := State.getD_setD_same s fd v
  exact ⟨_, he.trans (onPairs_next.2 ⟨heven, rfl⟩), by beta_reduce; rwa [hread], onlyChanges_setD s fd v⟩

/-- An instruction that writes a named word to an FPU register. -/
theorem completes_setF_eq {v w : Word} (he : exec i s = .next (s.setF fd v)) (hv : v = w) :
    Completes i s [.f fd] fun t => t.getF fd = w := completes_setF (P := (· = w)) he hv

/-- An instruction that writes a named doubleword to an even pair. -/
theorem completes_setD_eq {v w : DWord} (he : exec i s = onPairs even (.next (s.setD fd v))) (heven : even = true) (hv : v = w) :
    Completes i s [.f fd, .f (fd + 1)] fun t => t.getF (fd + 1) ++ t.getF fd = w := completes_setD (P := (· = w)) he heven hv

/-- The bits that are set stay set. -/
theorem or_mask_and_mask {n : Nat} (v m : BitVec n) : (v ||| m) &&& m = m := by
  ext k hk
  cases hm : m[k] <;> simp [hm]

/-- fd holds an acceptable value after the result has been written. -/
theorem isResultS_putS (hr : r.Fits binary32) : IsResultS s r ((putS fd r s).getF fd) := by
  cases r with
  | bits p =>
    rw [putS, State.getF_setF_same]
    exact Nat.mod_eq_of_lt hr
  | invalid => exact State.getF_setF_same s fd _
  | anyNaN =>
    have hread : (putS fd .anyNaN s).getF fd = s.freeQuietS := State.getF_setF_same s fd _
    rw [hread, IsResultS, State.freeQuietS, or_mask_and_mask]

/-- The pair fd holds an acceptable value after the result has been written. -/
theorem isResultD_putD (hr : r.Fits binary64) :
    IsResultD s r ((putD fd r s).getF (fd + 1) ++ (putD fd r s).getF fd) := by
  cases r with
  | bits p =>
    have hread : (putD fd (.bits p) s).getF (fd + 1) ++ (putD fd (.bits p) s).getF fd = BitVec.ofNat 64 p :=
      State.getD_setD_same s fd _
    rw [hread]
    exact Nat.mod_eq_of_lt hr
  | invalid => exact State.getD_setD_same s fd _
  | anyNaN =>
    have hread : (putD fd .anyNaN s).getF (fd + 1) ++ (putD fd .anyNaN s).getF fd = s.freeQuietD :=
      State.getD_setD_same s fd _
    rw [hread, IsResultD, State.freeQuietD, or_mask_and_mask]

/-- An instruction that writes a result of format S. -/
theorem completes_putS (he : exec i s = .next (putS fd r s)) (hr : r.Fits binary32) :
    Completes i s [.f fd] fun t => IsResultS s r (t.getF fd) :=
  ⟨_, he, isResultS_putS hr, onlyChanges_putS s fd r⟩

/-- An instruction that writes a result of format D, its register numbers even. -/
theorem completes_putD (he : exec i s = onPairs even (.next (putD fd r s))) (heven : even = true) (hr : r.Fits binary64) :
    Completes i s [.f fd, .f (fd + 1)] fun t => IsResultD s r (t.getF (fd + 1) ++ t.getF fd) :=
  ⟨_, he.trans (onPairs_next.2 ⟨heven, rfl⟩), isResultD_putD hr, onlyChanges_putD s fd r⟩

end Results

/-- Settles O42: each meaning writes the result of its operation, and every such result fits binary32. -/
theorem singleArithmeticWritesFd : Obligations.SingleArithmeticWritesFd := by
  intro s fd fs ft a b d gives
  have ha : a < 2 ^ binary32.width := (s.getF fs).isLt
  have hb : b < 2 ^ binary32.width := (s.getF ft).isLt
  exact ⟨completes_putS rfl (fits_addValues ..), completes_putS rfl (fits_addValues ..), completes_putS rfl (fits_fpMul ..),
    completes_putS rfl (fits_fpDiv ..), completes_putS rfl (fits_fpSqrt ..), completes_putS rfl (fits_fpDiv ..),
    completes_putS rfl (fits_fpRsqrt ..), completes_putS rfl (fits_fpRint ..), completes_putS rfl (fits_fusedValues ..),
    completes_putS rfl (fits_fpMsubf ..), completes_putS rfl (fits_fpMin ha hb), completes_putS rfl (fits_fpMina ha hb),
    completes_putS rfl (fits_fpMax ha hb), completes_putS rfl (fits_fpMaxa ha hb)⟩

/-- Settles O43: as for format S, once the register numbers are found even. -/
theorem doubleArithmeticWritesThePair : Obligations.DoubleArithmeticWritesThePair := by
  intro s fd fs ft hd hs ht a b d gives
  have h2 : (evenReg fd && evenReg fs) = true := by simp [evenReg_iff, hd, hs]
  have h3 : (evenReg fd && evenReg fs && evenReg ft) = true := by simp [evenReg_iff, hd, hs, ht]
  have ha : a < 2 ^ binary64.width := (s.getD fs).isLt
  have hb : b < 2 ^ binary64.width := (s.getD ft).isLt
  exact ⟨completes_putD rfl h3 (fits_addValues ..), completes_putD rfl h3 (fits_addValues ..), completes_putD rfl h3 (fits_fpMul ..),
    completes_putD rfl h3 (fits_fpDiv ..), completes_putD rfl h2 (fits_fpSqrt ..), completes_putD rfl h2 (fits_fpDiv ..),
    completes_putD rfl h2 (fits_fpRsqrt ..), completes_putD rfl h2 (fits_fpRint ..), completes_putD rfl h3 (fits_fusedValues ..),
    completes_putD rfl h3 (fits_fpMsubf ..), completes_putD rfl h3 (fits_fpMin ha hb), completes_putD rfl h3 (fits_fpMina ha hb),
    completes_putD rfl h3 (fits_fpMax ha hb), completes_putD rfl h3 (fits_fpMaxa ha hb)⟩

/-! ### CLASS and the bit operations (R265 to R270, R281, R282, R291 to R296) -/

section Class
variable {fmt : Format} {p : Nat}

/-- A magnitude is its two fields. -/
theorem fpMagnitude_eq_fields (fmt : Format) (p : Nat) :
    fpMagnitude fmt p = p / 2 ^ fmt.fracBits % 2 ^ fmt.expBits * 2 ^ fmt.fracBits + p % 2 ^ fmt.fracBits := by
  rw [← fpMagnitude_div, ← fpMagnitude_mod, Nat.div_add_mod']

theorem fpMagnitude_eq_infBits_iff (fmt : Format) (p : Nat) : fpMagnitude fmt p = fmt.infBits ↔
    p / 2 ^ fmt.fracBits % 2 ^ fmt.expBits = 2 ^ fmt.expBits - 1 ∧ p % 2 ^ fmt.fracBits = 0 := by
  have hF := Nat.two_pow_pos fmt.fracBits
  constructor
  · intro h
    rw [← fpMagnitude_div, ← fpMagnitude_mod, h, Format.infBits, Nat.mul_div_cancel _ hF, Nat.mul_mod_left]
    exact ⟨rfl, rfl⟩
  · rintro ⟨hE, h0⟩
    rw [fpMagnitude_eq_fields, hE, h0, Nat.add_zero, Format.infBits]

theorem fpMagnitude_eq_zero_iff (fmt : Format) (p : Nat) : fpMagnitude fmt p = 0 ↔
    p / 2 ^ fmt.fracBits % 2 ^ fmt.expBits = 0 ∧ p % 2 ^ fmt.fracBits = 0 := by
  have hF := Nat.two_pow_pos fmt.fracBits
  rw [fpMagnitude_eq_fields, Nat.add_eq_zero_iff, Nat.mul_eq_zero, or_iff_left hF.ne']

/-- The top fraction bit is the one that a quiet NaN has (R281). -/
theorem fraction_ge_iff (hfmt : fmt.Proper) : 2 ^ (fmt.fracBits - 1) ≤ fpFraction fmt p ↔ p.testBit (fmt.fracBits - 1) = true := by
  have hpow : 2 ^ fmt.fracBits = 2 * 2 ^ (fmt.fracBits - 1) := by
    rw [← Nat.pow_succ', Nat.succ_eq_add_one, Nat.sub_add_cancel hfmt.fracBits]
  rw [Nat.testBit_eq_decide_div_mod_eq, decide_eq_true_iff, ← Nat.mod_mul_left_div_self, ← hpow, fpFraction]
  have hlt : p % 2 ^ fmt.fracBits / 2 ^ (fmt.fracBits - 1) < 2 := by
    rw [Nat.div_lt_iff_lt_mul (Nat.two_pow_pos _), ← hpow]
    exact Nat.mod_lt _ (Nat.two_pow_pos _)
  rw [← Nat.one_le_div_iff (Nat.two_pow_pos _)]
  omega

/-- Which bit CLASS sets, from the three fields (R281, R282). -/
theorem fpClassBit_eq (hfmt : fmt.Proper) (hp : p < 2 ^ fmt.width) : fpClassBit fmt p =
    if p / 2 ^ fmt.fracBits % 2 ^ fmt.expBits = 2 ^ fmt.expBits - 1 then
      (if p % 2 ^ fmt.fracBits = 0 then (if fmt.signBit p then 2 else 6) else if p.testBit (fmt.fracBits - 1) then 1 else 0)
    else if p / 2 ^ fmt.fracBits % 2 ^ fmt.expBits = 0 then
      (if p % 2 ^ fmt.fracBits = 0 then (if fmt.signBit p then 5 else 9) else if fmt.signBit p then 4 else 8)
    else if fmt.signBit p then 3 else 7 := by
  have hE : 1 < 2 ^ fmt.expBits := Nat.one_lt_two_pow (by have := hfmt.expBits; omega)
  have hnan : fpIsNaN fmt p = true ↔
      p / 2 ^ fmt.fracBits % 2 ^ fmt.expBits = 2 ^ fmt.expBits - 1 ∧ p % 2 ^ fmt.fracBits ≠ 0 := by
    rw [fpIsNaN_iff_fields hp, Format.isFinite, and_iff_right hp, not_not]
  simp only [fpClassBit, fpIsQuiet, Bool.and_eq_true, hnan, decide_eq_true_iff, fraction_ge_iff hfmt, fpMagnitude_eq_infBits_iff,
    fpMagnitude_eq_zero_iff, fpExponent, fpMagnitude_div, fpNeg_eq_signBit]
  have hM : 2 ^ fmt.expBits - 1 ≠ 0 := by omega
  generalize p / 2 ^ fmt.fracBits % 2 ^ fmt.expBits = E, p % 2 ^ fmt.fracBits = F, 2 ^ fmt.expBits - 1 = M at hM ⊢
  rcases eq_or_ne E M with rfl | hmax
  · by_cases h0 : F = 0 <;> simp [h0]
  · rcases eq_or_ne E 0 with rfl | hzero
    · by_cases h0 : F = 0 <;> simp [h0, hmax]
    · by_cases h0 : F = 0 <;> simp [h0, hmax, hzero]

/-- A field of a word, as a number. -/
theorem extractLsb'_eq_iff {n : Nat} (v : BitVec n) (lo len : Nat) (c : BitVec len) :
    v.extractLsb' lo len = c ↔ v.toNat / 2 ^ lo % 2 ^ len = c.toNat := by
  rw [← BitVec.toNat_inj, BitVec.extractLsb'_toNat, Nat.shiftRight_eq_div_pow]

/-- The low field of a word, as a number. -/
theorem extractLsb'_zero_eq_zero_iff {n : Nat} (v : BitVec n) (len : Nat) : v.extractLsb' 0 len = 0 ↔ v.toNat % 2 ^ len = 0 := by
  rw [extractLsb'_eq_iff, Nat.pow_zero, Nat.div_one]
  change _ = (0#len).toNat ↔ _
  rw [BitVec.toNat_zero]

/-- The mask of CLASS, from any way to say that the exponent field is all ones or 0 and that the fraction field is 0. -/
theorem ofNat_fpClass (hfmt : fmt.Proper) (hp : p < 2 ^ fmt.width) {M Z F : Prop} [Decidable M] [Decidable Z] [Decidable F]
    (hM : M ↔ p / 2 ^ fmt.fracBits % 2 ^ fmt.expBits = 2 ^ fmt.expBits - 1)
    (hZ : Z ↔ p / 2 ^ fmt.fracBits % 2 ^ fmt.expBits = 0) (hF : F ↔ p % 2 ^ fmt.fracBits = 0) (n : Nat) :
    BitVec.ofNat n (fpClass fmt p) =
      if M then
        (if F then (if fmt.signBit p then 0x004#n else 0x040#n) else if p.testBit (fmt.fracBits - 1) then 0x002#n else 0x001#n)
      else if Z then
        (if F then (if fmt.signBit p then 0x020#n else 0x200#n) else if fmt.signBit p then 0x010#n else 0x100#n)
      else if fmt.signBit p then 0x008#n else 0x080#n := by
  rw [fpClass, fpClassBit_eq hfmt hp]
  simp only [← hM, ← hZ, ← hF]
  split_ifs <;> rfl

end Class

section BitOperations

theorem ite_getLsbD_zero {n : Nat} {α : Type} (v : BitVec n) (x y : α) :
    (if v.getLsbD 0 = true then x else y) = if v.toNat % 2 = 0 then y else x := by
  rw [BitVec.getLsbD, Nat.testBit_zero]
  rcases Nat.mod_two_eq_zero_or_one v.toNat with h | h <;> simp [h]

/-- The low bit of a pair is that of its even register. -/
theorem toNat_getD_mod_two (s : State) (r : Reg) : (s.getD r).toNat % 2 = (s.getF r).toNat % 2 := by
  have h : (s.getD r).toNat = (s.getF (r + 1#5)).toNat * 2 ^ 32 + (s.getF r).toNat := toNat_readPair s.f r
  omega

/-- Settles O44: one write of the word that each meaning computes from the old registers. -/
theorem singleBitOperationsWriteFd : Obligations.SingleBitOperationsWriteFd := by
  intro s fd fs ft v b
  have habs : ∀ k < 32, (0x7FFFFFFF#32).getLsbD k = decide (k ≠ 31) := by decide
  have hneg : ∀ k < 32, (0x80000000#32).getLsbD k = decide (k = 31) := by decide
  refine ⟨completes_setF (P := fun w => ∀ k, k < 32 → w.getLsbD k = (v.getLsbD k && decide (k ≠ 31))) rfl fun k hk => ?_,
    completes_setF (P := fun w => ∀ k, k < 32 → w.getLsbD k = (v.getLsbD k ^^ decide (k = 31))) rfl fun k hk => ?_,
    completes_moveToF rfl, completes_setF_eq rfl (ite_getLsbD_zero _ _ _),
    completes_setF_eq rfl (ite_getLsbD_zero _ _ _), completes_setF_eq rfl (ite_getLsbD_zero _ _ _),
    completes_setF_eq rfl (ofNat_fpClass (Format.proper_of_mem (by simp)) v.isLt (extractLsb'_eq_iff v 23 8 _)
      (extractLsb'_eq_iff v 23 8 _) (extractLsb'_zero_eq_zero_iff v 23) 32)⟩
  · rw [BitVec.getLsbD_and, habs k hk]
  · rw [BitVec.getLsbD_xor, hneg k hk]

/-- Settles O45: as for format S, on the pairs; the selector of SEL is the low bit of the even register. -/
theorem doubleBitOperationsWriteThePair : Obligations.DoubleBitOperationsWriteThePair := by
  intro s fd fs ft hd hs v b gives
  have habs : ∀ k < 64, (0x7FFFFFFFFFFFFFFF#64).getLsbD k = decide (k ≠ 63) := by decide
  have hneg : ∀ k < 64, (0x8000000000000000#64).getLsbD k = decide (k = 63) := by decide
  have h2 : (evenReg fd && evenReg fs) = true := by simp [evenReg_iff, hd, hs]
  have h3 : ft.toNat % 2 = 0 → (evenReg fd && evenReg fs && evenReg ft) = true := fun ht => by simp [evenReg_iff, hd, hs, ht]
  refine ⟨completes_setD (P := fun w => ∀ k, k < 64 → w.getLsbD k = (v.getLsbD k && decide (k ≠ 63))) rfl h2 fun k hk => ?_,
    completes_setD (P := fun w => ∀ k, k < 64 → w.getLsbD k = (v.getLsbD k ^^ decide (k = 63))) rfl h2 fun k hk => ?_,
    completes_setD_eq rfl h2 rfl, fun ht => completes_setD_eq rfl (h3 ht) ?_,
    fun ht => completes_setD_eq rfl (h3 ht) (ite_getLsbD_zero b 0 v), fun ht => completes_setD_eq rfl (h3 ht) (ite_getLsbD_zero b v 0),
    completes_setD_eq rfl h2 (ofNat_fpClass (Format.proper_of_mem (by simp)) v.isLt (extractLsb'_eq_iff v 52 11 _)
      (extractLsb'_eq_iff v 52 11 _) (extractLsb'_zero_eq_zero_iff v 52) 64)⟩
  · rw [BitVec.getLsbD_and, habs k hk]
    rfl
  · rw [BitVec.getLsbD_xor, hneg k hk]
    rfl
  · refine (ite_getLsbD_zero (s.getD fd) b v).trans ?_
    rw [toNat_getD_mod_two]

end BitOperations

end Sys2Proof.Machine

namespace Sys2Proof.Machine

/-! ### Comparisons (R320 to R322, R569) -/

section Comparisons
variable {s u : State} {i : Instr} {ps : List Place} {c : Bool} {P : RegFile → Prop}

/-- The predicate of a comparison in the words of R320: the chosen relations, complemented by cond[4]. -/
theorem fpCompare_iff (fmt : Format) (cond : BitVec 5) (a b : Nat) : fpCompare fmt cond a b = true ↔
    ((cond.getLsbD 0 && fpUnordered fmt a b) || (cond.getLsbD 1 && fpEqual fmt a b) || (cond.getLsbD 2 && fpLess fmt a b)) ≠
      cond.getLsbD 4 := by
  unfold fpCompare fpPredicate
  generalize (_ || _ || _ : Bool) = p
  cases cond.getLsbD 4 <;> simp

/-- The choice of a comparison's mask, zeros where the relations agree with cond[4] (R320). -/
theorem ite_fpCompare {α : Type} (fmt : Format) (cond : BitVec 5) (a b : Nat) (ones zeros : α) :
    (if fpCompare fmt cond a b = true then ones else zeros) =
      if ((cond.getLsbD 0 && fpUnordered fmt a b) || (cond.getLsbD 1 && fpEqual fmt a b) || (cond.getLsbD 2 && fpLess fmt a b)) =
        cond.getLsbD 4 then zeros else ones := by
  simp only [fpCompare_iff, ne_eq, ite_not]

/-- Without a signal, the write of the mask is all that happened (R321). -/
theorem completes_signalIf_false (he : exec i s = .next (signalIf c u)) (hc : c = false) (hw : OnlyChanges ps s u) (hP : P u.f) :
    Completes i s ps fun t => P t.f := by
  subst hc
  exact ⟨u, he, hP, hw⟩

/-- The signal comes after the write of the mask, which it keeps (R321). -/
theorem completes_signalIf_true (he : exec i s = .next (signalIf c u)) (hc : c = true) (hw : OnlyChanges ps s u) (hP : P u.f) :
    Completes i s (ps ++ [.raised]) fun t => P t.f ∧ t.raised = some .invalidFloatingPointOperation := by
  subst hc
  exact ⟨_, he, ⟨hP, State.raise_raised u _⟩, hw.trans (onlyChanges_raise u _)⟩

/-- An instruction that writes a mask and may signal, its signal given by cond[3] and by whether the operands are unordered. -/
theorem completes_signalIf {k un : Bool} (he : exec i s = .next (signalIf (k && un) u)) (hw : OnlyChanges ps s u)
    (hP : P u.f) :
    (k = false ∨ un = false → Completes i s ps fun t => P t.f) ∧
    (k = true → un = true →
      Completes i s (ps ++ [.raised]) fun t => P t.f ∧ t.raised = some .invalidFloatingPointOperation) :=
  ⟨fun h => completes_signalIf_false he (Bool.and_eq_false_iff.2 h) hw hP,
    fun hk hu => completes_signalIf_true he (Bool.and_eq_true_iff.2 ⟨hk, hu⟩) hw hP⟩

end Comparisons

/-- Settles O46: each meaning is `compareS` of its condition code, one write of the mask and then perhaps the signal. -/
theorem singleComparisonsWriteMasks : Obligations.SingleComparisonsWriteMasks := by
  intro s fd fs ft a b un c hc
  have hexec : exec c.2 s = compareS c.1 fd fs ft s := by fin_cases hc <;> rfl
  refine completes_signalIf (P := fun g => readReg g fd = _) hexec (onlyChanges_setF s fd _) ?_
  exact (State.getF_setF_same s fd _).trans (ite_fpCompare binary32 c.1 a b _ _)

/-- Settles O47: as for format S, on pairs of even registers. -/
theorem doubleComparisonsWriteMasks : Obligations.DoubleComparisonsWriteMasks := by
  intro s fd fs ft hd hs ht a b un c hc
  have hexec : exec c.2 s = compareD c.1 fd fs ft s := by fin_cases hc <;> rfl
  have heven : (evenReg fd && evenReg fs && evenReg ft) = true := by simp [evenReg_iff, hd, hs, ht]
  refine completes_signalIf (P := fun g => readPair g fd = _) (hexec.trans (onPairs_next.2 ⟨heven, rfl⟩))
    (onlyChanges_setD s fd _) ?_
  exact (State.getD_setD_same s fd _).trans (ite_fpCompare binary64 c.1 a b _ _)

end Sys2Proof.Machine

namespace Sys2Proof.Machine

/-! ### Writing a conversion (R380 to R406) -/

theorem fits_fpConvert (src dst : Format) (a : Nat) : (fpConvert src dst a).Fits dst := by
  unfold fpConvert
  cases unpack src a with
  | nan => trivial
  | inf neg => exact fits_fpInf dst neg
  | finite neg m e => exact fits_roundNearest dst ..

theorem fits_fpOfInt (fmt : Format) (i : ℤ) : (fpOfInt fmt i).Fits fmt := fits_roundNearest fmt ..

/-- Settles O48: each meaning writes the result of its conversion, and every such result fits its format. -/
theorem conversionsToFloatWriteFd : Obligations.ConversionsToFloatWriteFd := by
  intro s fd fs v d single double
  refine ⟨completes_putS rfl (fits_fpOfInt ..), fun hs => ?_, fun hd => ?_, fun hd hs => ?_⟩
  · have heven := (evenReg_iff fs).2 hs
    exact ⟨completes_putS (onPairs_next.2 ⟨heven, rfl⟩) (fits_fpConvert ..),
      completes_putS (onPairs_next.2 ⟨heven, rfl⟩) (fits_fpOfInt ..)⟩
  · have heven := (evenReg_iff fd).2 hd
    exact ⟨completes_putD rfl heven (fits_fpConvert ..), completes_putD rfl heven (fits_fpOfInt ..)⟩
  · have heven : (evenReg fd && evenReg fs) = true := by simp [evenReg_iff, hd, hs]
    exact completes_putD rfl heven (fits_fpOfInt ..)

section ToInteger
variable {s : State} {i : Instr} {fd fs : Reg} {dir : RoundDir}

theorem completes_toWordFromS (he : exec i s = toWordFromS dir fd fs s) :
    Completes i s [.f fd] fun t => t.getF fd = BitVec.ofInt 32 (fpToInt binary32 dir 32 (s.patS fs)) :=
  completes_setF_eq he rfl

theorem completes_toWordFromD (he : exec i s = toWordFromD dir fd fs s) (hs : fs.toNat % 2 = 0) :
    Completes i s [.f fd] fun t => t.getF fd = BitVec.ofInt 32 (fpToInt binary64 dir 32 (s.patD fs)) :=
  completes_setF_eq (he.trans (onPairs_next.2 ⟨(evenReg_iff fs).2 hs, rfl⟩)) rfl

theorem completes_toLongFromS (he : exec i s = toLongFromS dir fd fs s) (hd : fd.toNat % 2 = 0) :
    Completes i s [.f fd, .f (fd + 1)] fun t =>
      t.getF (fd + 1) ++ t.getF fd = BitVec.ofInt 64 (fpToInt binary32 dir 64 (s.patS fs)) :=
  completes_setD_eq he ((evenReg_iff fd).2 hd) rfl

theorem completes_toLongFromD (he : exec i s = toLongFromD dir fd fs s) (hd : fd.toNat % 2 = 0) (hs : fs.toNat % 2 = 0) :
    Completes i s [.f fd, .f (fd + 1)] fun t =>
      t.getF (fd + 1) ++ t.getF fd = BitVec.ofInt 64 (fpToInt binary64 dir 64 (s.patD fs)) :=
  completes_setD_eq he (Bool.and_eq_true_iff.2 ⟨(evenReg_iff fd).2 hd, (evenReg_iff fs).2 hs⟩) rfl

end ToInteger

/-- Settles O49: each meaning is one of the four conversions between the formats, in the direction of its mnemonic. -/
theorem conversionsToIntegerWriteFd : Obligations.ConversionsToIntegerWriteFd := by
  intro s fd fs v d word long
  refine ⟨?wordFromS, fun hs => ?wordFromD, fun hd => ?longFromS, fun hd hs => ?longFromD⟩
  case wordFromS =>
    refine ⟨?_, ?_, ?_, ?_, ?_⟩ <;> exact completes_toWordFromS rfl
  case wordFromD =>
    refine ⟨?_, ?_, ?_, ?_, ?_⟩ <;> exact completes_toWordFromD rfl hs
  case longFromS =>
    refine ⟨?_, ?_, ?_, ?_, ?_⟩ <;> exact completes_toLongFromS rfl hd
  case longFromD =>
    refine ⟨?_, ?_, ?_, ?_, ?_⟩ <;> exact completes_toLongFromD rfl hd hs

/-! ### Rounding to an integer in a direction (R380) -/

section Directions
variable {dir : RoundDir} {neg : Bool} {m : Nat} {e : ℤ}

/-- A value scaled by a power of two is a quotient of integers, and `roundAt` answers the integer quotient or the next integer, as the
remainder demands. -/
theorem exists_roundAt_eq (dir : RoundDir) (neg : Bool) (m : Nat) (e : ℤ) :
    ∃ n k : Nat, (m : ℝ) * 2 ^ e = n / (2 ^ k : ℕ) ∧
      roundAt dir neg m e 0 false = n / 2 ^ k + if roundsUp dir neg (n / 2 ^ k) (n % 2 ^ k) k false then 1 else 0 := by
  rw [roundAt]
  split
  case isTrue he =>
    have hexact : roundsUp dir neg (m <<< (e - 0).toNat) 0 0 false = false := by cases dir <;> simp [roundsUp]
    refine ⟨m <<< (e - 0).toNat, 0, ?_, ?_⟩
    · rw [← shiftLeft_mul_zpow m he, zpow_zero, mul_one, Nat.pow_zero, Nat.cast_one, div_one]
    · simp only [Nat.pow_zero, Nat.div_one, Nat.mod_one, hexact, Bool.false_eq_true, if_false, Nat.add_zero]
  case isFalse he =>
    obtain ⟨k, rfl⟩ := Int.exists_eq_neg_ofNat (not_le.1 he).le
    refine ⟨m, k, ?_, ?_⟩
    · rw [zpow_neg, zpow_natCast, ← div_eq_mul_inv, Nat.cast_pow, Nat.cast_ofNat]
    · simp only [zero_sub, neg_neg, Int.toNat_natCast, Nat.shiftRight_eq_div_pow]

/-- Where no remainder counts, the magnitude is rounded down. -/
theorem roundAt_eq_floor (h : ∀ q r k, roundsUp dir neg q r k false = false) :
    roundAt dir neg m e 0 false = ⌊(m : ℝ) * 2 ^ e⌋₊ := by
  obtain ⟨n, k, hvalue, hround⟩ := exists_roundAt_eq dir neg m e
  rw [hround, hvalue, Nat.floor_div_eq_div, h]
  rfl

/-- The quotient of two integers rounded up: the next integer if a remainder is left. -/
theorem natCeil_div {n d : Nat} (hd : 0 < d) : ⌈(n : ℝ) / d⌉₊ = n / d + if n % d ≠ 0 then 1 else 0 := by
  refine eq_of_forall_ge_iff fun c => ?_
  have hceil : ⌈(n : ℝ) / d⌉₊ ≤ c ↔ n ≤ c * d := by
    rw [Nat.ceil_le, div_le_iff₀ (Nat.cast_pos.2 hd)]
    exact_mod_cast Iff.rfl
  rw [hceil]
  split
  case isTrue hrest =>
    have hne : n ≠ c * d := fun he => hrest (he ▸ Nat.mul_mod_left c d)
    rw [Nat.succ_le_iff, Nat.div_lt_iff_lt_mul hd, hne.le_iff_lt]
  case isFalse hrest =>
    rw [Nat.add_zero, Nat.div_le_iff_le_mul_of_dvd hd.ne' (Nat.dvd_of_mod_eq_zero (not_not.1 hrest))]

/-- Where any remainder counts, the magnitude is rounded up. -/
theorem roundAt_eq_ceil (h : ∀ q r k, roundsUp dir neg q r k false = decide (r ≠ 0)) :
    roundAt dir neg m e 0 false = ⌈(m : ℝ) * 2 ^ e⌉₊ := by
  obtain ⟨n, k, hvalue, hround⟩ := exists_roundAt_eq dir neg m e
  simp only [hround, hvalue, natCeil_div (Nat.two_pow_pos k), h, decide_eq_true_iff]

/-- Down is toward zero for a positive number and away from zero for a negative one. -/
theorem roundToInt_down (neg : Bool) (m : Nat) (e : ℤ) : roundToInt .down neg m e = ⌊signedReal neg (m * 2 ^ e)⌋ := by
  have hw : (0 : ℝ) ≤ m * 2 ^ e := by positivity
  cases neg with
  | false =>
    rw [roundToInt, roundAt_eq_floor fun _ _ _ => rfl]
    exact Int.natCast_floor_eq_floor hw
  | true =>
    rw [roundToInt, roundAt_eq_ceil (by simp [roundsUp]), signedReal_true, Int.floor_neg, ← Int.natCast_ceil_eq_ceil hw]
    rfl

/-- Up is away from zero for a positive number and toward zero for a negative one. -/
theorem roundToInt_up (neg : Bool) (m : Nat) (e : ℤ) : roundToInt .up neg m e = ⌈signedReal neg (m * 2 ^ e)⌉ := by
  have hw : (0 : ℝ) ≤ m * 2 ^ e := by positivity
  cases neg with
  | false =>
    rw [roundToInt, roundAt_eq_ceil (by simp [roundsUp])]
    exact Int.natCast_ceil_eq_ceil hw
  | true =>
    rw [roundToInt, roundAt_eq_floor fun _ _ _ => rfl, signedReal_true, Int.ceil_neg, ← Int.natCast_floor_eq_floor hw]
    rfl

/-- Toward zero is down for a number that is not negative and up for the others; a zero is an integer, whatever its sign. -/
theorem roundToInt_towardZero (neg : Bool) (m : Nat) (e : ℤ) : roundToInt .towardZero neg m e =
    if 0 ≤ signedReal neg (m * 2 ^ e) then ⌊signedReal neg (m * 2 ^ e)⌋ else ⌈signedReal neg (m * 2 ^ e)⌉ := by
  have hw : (0 : ℝ) ≤ m * 2 ^ e := by positivity
  rw [roundToInt, roundAt_eq_floor fun _ _ _ => rfl]
  cases neg with
  | false =>
    rw [signedReal_false, if_pos hw]
    exact Int.natCast_floor_eq_floor hw
  | true =>
    have hup : signedInt true ⌊(m : ℝ) * 2 ^ e⌋₊ = ⌈-((m : ℝ) * 2 ^ e)⌉ := by
      rw [Int.ceil_neg, ← Int.natCast_floor_eq_floor hw]
      rfl
    rw [signedReal_true, hup]
    split
    case isTrue h => rw [hw.antisymm' (neg_nonneg.1 h), neg_zero, Int.ceil_zero, Int.floor_zero]
    case isFalse h => rfl

/-- Rounding to the nearest integer, the even one of two. -/
theorem nearestEven_roundToInt (neg : Bool) (m : Nat) (e : ℤ) :
    NearestEven (signedReal neg (m * 2 ^ e)) (roundToInt .nearestEven neg m e) :=
  (nearestEven_roundAt_zero neg m e).signed neg

end Directions

/-! ### Conversions to an integer (R380) -/

section IntegerConversions
variable {fmt : Format} {a : Nat}

/-- A conversion clamps what the rounding answers. -/
theorem fpToInt_of_finite {dir : RoundDir} {neg : Bool} {m : Nat} {e : ℤ} (w : Nat) (h : unpack fmt a = .finite neg m e) :
    fpToInt fmt dir w a = max (-2 ^ (w - 1)) (min (2 ^ (w - 1) - 1) (roundToInt dir neg m e)) := by
  rw [fpToInt, h]

theorem fpToInt_infinity (fmt : Format) (dir : RoundDir) (w : Nat) (n : Bool) :
    fpToInt fmt dir w (fmt.infinity n) = if n then -2 ^ (w - 1) else 2 ^ (w - 1) - 1 := by
  rw [fpToInt, unpack_infinity]

theorem fpToInt_of_isNaN (h : fpIsNaN fmt a = true) (dir : RoundDir) (w : Nat) : fpToInt fmt dir w a = 0 := by
  rw [fpToInt, unpack_of_isNaN h]

end IntegerConversions

/-- Settles O55: the significand of the pattern is rounded as its value is, and the patterns that are not numbers are read as such. -/
theorem integerConversionsRoundAndClamp : Obligations.IntegerConversionsRoundAndClamp := by
  intro fmt _ w _ a x clamp inf
  have hplus : inf = fmt.infinity false := by simp [inf, Format.infinity]
  refine ⟨fun ha => ?number, fun dir => ⟨?plus, fpToInt_infinity fmt dir w true, fun hnan => fpToInt_of_isNaN hnan dir w⟩⟩
  case plus =>
    rw [hplus]
    exact fpToInt_infinity fmt dir w false
  case number =>
    obtain ⟨m, e, hu, hv, -⟩ := exists_unpack_eq_finite ha
    have hclamp : ∀ dir, fpToInt fmt dir w a = clamp (roundToInt dir (fmt.signBit a) m e) := fun dir => fpToInt_of_finite w hu
    have hx : x = signedReal (fmt.signBit a) (m * 2 ^ e) := hv
    obtain ⟨hnear, heven⟩ := nearestEven_roundToInt (fmt.signBit a) m e
    rw [hclamp, hclamp, hclamp, roundToInt_down, roundToInt_up, roundToInt_towardZero, hx]
    exact ⟨rfl, rfl, rfl, _, hnear, heven, hclamp .nearestEven⟩

end Sys2Proof.Machine

namespace Sys2Proof.Machine

/-! ### Traps, conditions, no-operations (R422 to R457) -/

section TrapsAndNoOperations
variable {s : State} {i : Instr} {c : Bool} {P : Prop}

/-- A trap raises exactly if the condition that its Boolean stands for holds (R567). -/
theorem completes_trapIf (he : exec i s = trapIf c s) (hc : c = true ↔ P) :
    (P → Completes i s [.raised] fun t => t.raised = some .trap) ∧ (¬ P → Completes i s [] fun _ => True) := by
  refine ⟨fun hP => ?holds, fun hP => ?fails⟩
  case holds =>
    obtain rfl : c = true := hc.2 hP
    exact completes_raise he
  case fails =>
    obtain rfl : c = false := Bool.eq_false_iff.2 (mt hc.1 hP)
    exact ⟨s, he, trivial, onlyChanges_refl [] s⟩

/-- A no-operation leaves every place as it was (R432). -/
theorem completes_noOperation (he : exec i s = noOperation s) : Completes i s [] fun _ => True :=
  ⟨s, he, trivial, onlyChanges_refl [] s⟩

end TrapsAndNoOperations

/-- Settles O35: each meaning is `trapIf` of the Boolean that stands for its comparison. -/
theorem trapsRaiseOnTheirCondition : Obligations.TrapsRaiseOnTheirCondition := fun _ _ _ _ =>
  ⟨completes_trapIf rfl (not_ltSigned_iff _ _), completes_trapIf rfl (not_ltUnsigned_iff _ _),
    completes_trapIf rfl (ltSigned_iff _ _), completes_trapIf rfl (ltUnsigned_iff _ _),
    completes_trapIf rfl beq_iff_eq, completes_trapIf rfl bne_iff_ne⟩

/-- Settles O36: each meaning raises its condition without looking at its operands. -/
theorem fatalInstructionsRaiseTheirConditions : Obligations.FatalInstructionsRaiseTheirConditions := fun _ _ _ _ =>
  ⟨completes_raise rfl, completes_raise rfl, completes_raise rfl, completes_raise rfl⟩

/-- Settles O37: each meaning in the list is `noOperation`, that of RDHWR too (R433). -/
theorem noOperationsChangeNothing : Obligations.NoOperationsChangeNothing := by
  intro s r q imm o9 g i hi
  apply completes_noOperation
  fin_cases hi
  all_goals rfl

/-! ### Loads and stores of the general registers (R480 to R503) -/

section GeneralMemory
variable {s : State} {i : Instr} {a : Word} {rt : Reg}

/-- A sign-extended write of a number that the bytes at `a` make (R486, R488). -/
theorem completes_signExtend {n : Nat} {v : BitVec (8 * n)} (he : exec i s = .next (s.setX rt (v.signExtend 32)))
    (hv : v.toNat = bigEndian (s.bytesFrom a n)) : Completes i s [.x rt] fun t =>
      t.getX rt = BitVec.ofInt 32 (BitVec.ofNat (8 * n) (bigEndian (s.bytesFrom a n))).toInt := by
  refine completes_setX he ?_
  rw [State.getX_setX_same, ← hv, BitVec.ofNat_toNat, BitVec.setWidth_eq]
  rfl

/-- A zero-extended write of a number that the bytes at `a` make (R487, R489). -/
theorem completes_setWidth {w n : Nat} {v : BitVec w} (hw : w ≤ 32) (he : exec i s = .next (s.setX rt (v.setWidth 32)))
    (hv : v.toNat = bigEndian (s.bytesFrom a n)) :
    Completes i s [.x rt] fun t => (t.getX rt).toNat = bigEndian (s.bytesFrom a n) := by
  refine completes_setX he ?_
  rw [State.getX_setX_same, BitVec.toNat_setWidth_of_le hw, hv]

/-- A sign-extending byte load (R486). -/
theorem completes_of_loadByte_signed (he : exec i s = loadByte a s fun v => s.setX rt (v.signExtend 32))
    (ha : s.accessible a 1 = true) : Completes i s [.x rt] fun t =>
      t.getX rt = BitVec.ofInt 32 (BitVec.ofNat (8 * 1) (bigEndian (s.bytesFrom a 1))).toInt :=
  completes_signExtend (he.trans (loadByte_next.2 ⟨ha, rfl⟩)) (toNat_load8 s a)

/-- A zero-extending byte load (R487). -/
theorem completes_of_loadByte_unsigned (he : exec i s = loadByte a s fun v => s.setX rt (v.setWidth 32))
    (ha : s.accessible a 1 = true) :
    Completes i s [.x rt] fun t => (t.getX rt).toNat = bigEndian (s.bytesFrom a 1) :=
  completes_setWidth (by decide) (he.trans (loadByte_next.2 ⟨ha, rfl⟩)) (toNat_load8 s a)

/-- A sign-extending halfword load (R488). -/
theorem completes_of_loadHalf_signed (he : exec i s = loadHalf a s fun v => s.setX rt (v.signExtend 32))
    (ha : s.accessible a 2 = true) : Completes i s [.x rt] fun t =>
      t.getX rt = BitVec.ofInt 32 (BitVec.ofNat (8 * 2) (bigEndian (s.bytesFrom a 2))).toInt :=
  completes_signExtend (he.trans (loadHalf_next.2 ⟨ha, rfl⟩)) (toNat_load16 s a)

/-- A zero-extending halfword load (R489). -/
theorem completes_of_loadHalf_unsigned (he : exec i s = loadHalf a s fun v => s.setX rt (v.setWidth 32))
    (ha : s.accessible a 2 = true) :
    Completes i s [.x rt] fun t => (t.getX rt).toNat = bigEndian (s.bytesFrom a 2) :=
  completes_setWidth (by decide) (he.trans (loadHalf_next.2 ⟨ha, rfl⟩)) (toNat_load16 s a)

/-- A word load needs no extension (R490). -/
theorem completes_of_loadWord_setX (he : exec i s = loadWord a s fun v => s.setX rt v) (ha : s.accessible a 4 = true) :
    Completes i s [.x rt] fun t => (t.getX rt).toNat = bigEndian (s.bytesFrom a 4) := by
  refine completes_of_loadWord he ha ?_ (onlyChanges_setX s rt _)
  rw [State.getX_setX_same, toNat_load32]

/-- A byte store completes with the byte in place. -/
theorem completes_of_storeByte {v : Byte} (he : exec i s = storeByte a v s) (ha : s.accessible a 1 = true) :
    Completes i s (bytePlaces a 1) fun t => bigEndian (t.bytesFrom a 1) = v.toNat := by
  refine ⟨_, he.trans (storeByte_next.2 ⟨ha, rfl⟩), ?_, onlyChanges_store8 s a v⟩
  beta_reduce
  rw [← toNat_load8, State.setMem_mem, load8_store8]

/-- A halfword store completes with the bytes of the halfword in place. -/
theorem completes_of_storeHalf {v : Half} (he : exec i s = storeHalf a v s) (ha : s.accessible a 2 = true) :
    Completes i s (bytePlaces a 2) fun t => bigEndian (t.bytesFrom a 2) = v.toNat := by
  refine ⟨_, he.trans (storeHalf_next.2 ⟨ha, rfl⟩), ?_, onlyChanges_store16 s a v⟩
  beta_reduce
  rw [← toNat_load16, State.setMem_mem, load16_store16]

end GeneralMemory

/-- Settles O38: each meaning is a load of its width with its extension; the E forms and LWPC differ in the address alone (R484). -/
theorem loadsReadMemoryIntoRt : Obligations.LoadsReadMemoryIntoRt := fun _ _ _ _ _ _ =>
  ⟨completes_of_loadByte_signed rfl, completes_of_loadByte_unsigned rfl, completes_of_loadHalf_signed rfl,
    completes_of_loadHalf_unsigned rfl, completes_of_loadWord_setX rfl, completes_of_loadWord_setX rfl,
    completes_of_loadByte_signed rfl, completes_of_loadByte_unsigned rfl, completes_of_loadHalf_signed rfl,
    completes_of_loadHalf_unsigned rfl, fun ha =>
      ⟨completes_of_loadWord_setX rfl ha, completes_of_loadWord_setX rfl ha, completes_of_loadWord_setX rfl ha⟩⟩

/-- Settles O39: the bytes in place are those of the low part of the register that the meaning stores. -/
theorem storesWriteTheBytesOfRt : Obligations.StoresWriteTheBytesOfRt := by
  intro s rt base off o9 stored
  have hbyte : ((s.getX rt).extractLsb' 0 8).toNat = (s.getX rt).toNat % 2 ^ (8 * 1) := BitVec.extractLsb'_toNat ..
  have hhalf : ((s.getX rt).extractLsb' 0 16).toNat = (s.getX rt).toNat % 2 ^ (8 * 2) := BitVec.extractLsb'_toNat ..
  have hword : (s.getX rt).toNat = (s.getX rt).toNat % 2 ^ (8 * 4) := (Nat.mod_eq_of_lt (s.getX rt).isLt).symm
  simp only [stored, ← hbyte, ← hhalf, ← hword]
  exact ⟨completes_of_storeByte rfl, completes_of_storeHalf rfl, completes_of_storeWord rfl, completes_of_storeByte rfl,
    completes_of_storeHalf rfl, completes_of_storeWord rfl⟩

end Sys2Proof.Machine
